-- ==== Sys2Proof/Word.lean ====
section
/-! DEFINITION. The byte, the one word the part shifts in and out (chapters 9 and 12). -/

namespace Sys2Proof

/-- One byte, as the pattern port shifts it (R184) and as a ring frame holds it (section 9.7). -/
abbrev Byte := BitVec 8

end Sys2Proof
end

