-- ==== Sys2Proof/Syntax.lean ====
section
/-! DEFINITION. The 70 commands of spec/opcode_table.json with their operands. A request's operands are the fields of its
body in section 12.4, each as wide as the body carries it ("a body field wider than the range its rule gives carries the
full value", section 12.3); an event's operands are what the event brings from outside the part. -/

namespace Sys2Proof

/-- An encoder channel of the main shaft (R1). -/
inductive Channel where
  | a
  | b
  deriving DecidableEq, Repr

/-- One step in the step encoding of section 12.4: the kind byte and the two fields after it, as they were sent. -/
structure StepBytes where
  kind : Byte
  x : BitVec 16
  y : BitVec 16
  deriving DecidableEq, Repr

/-- The fields of an ADD_EDIT body after the set and the slot, as they were sent (section 12.4). -/
structure EditBytes where
  kind : Byte
  program : Byte
  entryCourse : BitVec 32
  leadSlot : Byte
  offset : BitVec 16
  mirror : Byte
  limitsPresent : Byte
  low : BitVec 16
  high : BitVec 16
  deriving DecidableEq, Repr

/-- The fields of a SET_PROFILE body after the profile number, as they were sent (section 12.4). -/
structure ProfileBytes where
  tAcc : BitVec 16
  tNs : BitVec 16
  tSet : BitVec 16
  shogMax : Byte
  os : BitVec 16
  oe : BitVec 16
  us : BitVec 16
  ue : BitVec 16
  deriving DecidableEq, Repr

/-- The fields of a SET_FRAME body (section 12.4). Bit s of the mask stands for slot s. -/
structure FrameBytes where
  gauge : Byte
  fitted : BitVec 64
  d : Byte
  sMax : BitVec 16
  tolerance : BitVec 16
  deriving DecidableEq, Repr

/-- What began a cold reset (R188): power-on, or the reset input with the time it was held asserted. -/
inductive ResetCause where
  | powerOn
  | resetInput (heldMicros : Nat)
  deriving DecidableEq, Repr

/-- The commands, one constructor per row of spec/opcode_table.json. -/
inductive Instr where
  -- the main shaft (chapter 1)
  | ordinaryStep (channel : Channel)
  | skippedCount
  | indexWithoutStep (withSkippedCount : Bool)
  | forwardCourseEntry (time : Nat)
  | reverseCourseEntry
  | stallTimerExpiry
  -- the emergency input (section 10.4)
  | emergencyInputActive
  | emergencyInputInactive
  -- the speed line and the planner (chapter 7)
  | speedMessageEnd
  | planningStart
  | planningEnd
  -- the drive ring (chapter 9); a frame comes as the bytes that reach the ring input
  | frameSend
  | markerReturn (bytes : List Byte)
  | markerLost
  | partFrameReturn (bytes : List Byte)
  | frameDeclaredLost
  | idleTimerExpiry
  | retryExpiry (slot : Nat)
  | bindAck (bytes : List Byte)
  | done (bytes : List Byte)
  | fault (bytes : List Byte)
  -- the seal and the port (chapters 3 and 12); a message is the bytes shifted in, a read the number of bytes clocked
  | sealEnd
  | read (places : Nat)
  | busy (message : List Byte)
  | unknown (message : List Byte)
  -- bar requests (chapters 2 and 8)
  | bind (slot : Byte)
  | park (slot : Byte)
  | setAddress (slot address : Byte)
  | setBarProfile (slot profile : Byte)
  | setTrim (slot : Byte) (trim : BitVec 16)
  | setLimits (slot : Byte) (low high : BitVec 16)
  | queryBar (slot : Byte)
  | recover (slot : Byte)
  -- program requests (chapter 3)
  | createProgram (program : Byte) (length : BitVec 16)
  | writeSteps (program : Byte) (start : BitVec 16) (steps : List StepBytes)
  | sealProgram (program : Byte)
  | retireProgram (program : Byte)
  | queryProgram (program : Byte)
  | readSteps (program : Byte) (start : BitVec 16) (count : Byte)
  | queryStore
  -- set requests (chapter 5)
  | openSet (set : Byte)
  | addEdit (set slot : Byte) (edit : EditBytes)
  | dropEdit (set slot : Byte)
  | commitSet (set : Byte) (e : BitVec 32)
  | cancelSet (set : Byte)
  | discardSet (set : Byte)
  | querySet (set : Byte)
  -- profile requests (chapter 6)
  | setProfile (profile : Byte) (record : ProfileBytes)
  | queryProfile (profile : Byte)
  -- planner requests (chapter 7)
  | setSpeedCap (speed : BitVec 16)
  | queryMotion
  | queryCourse (course : BitVec 32) (firstSlot : Byte)
  -- ring requests (chapter 9)
  | retrain
  | queryRing
  -- alert requests (chapter 10)
  | queryAlerts
  | ackAlert (kind : Byte)
  | setAlertLevel (kind level : Byte)
  | setStopThreshold (threshold : Byte)
  | clearHalt
  -- frame and piece requests (chapter 11)
  | setFrame (frame : FrameBytes)
  | queryFrame
  | setPieceLength (length : BitVec 32)
  | startPieces
  | pausePieces
  | clearPieces
  | queryPieces
  -- resets (chapter 12)
  | restart
  | warmResetComplete (emergencyActive : Bool)
  | queryStatus
  | coldReset (cause : ResetCause) (levelA levelB emergencyActive : Bool)
  deriving DecidableEq, Repr

end Sys2Proof
end

