-- ==== Sys2Proof/Decode.lean ====
section
/-! DEFINITION. What commands bytes spell. No row of spec/opcode_table.json gives bits, so `decodeTableWord` answers none for
every word. The pattern port's request messages do have bytes (sections 12.3 and 12.4): `parseMessage` reads any bytes shifted
in and rejects by name as R186 says, and `encodeRequest` writes a request's message from the same tables. -/

namespace Sys2Proof

/-- The command a word spells by the table's bits: none, since no row gives bits (log 32). -/
def decodeTableWord (_nbits _w : Nat) : Option Instr := none

/-! ### Fields (R184: most significant byte first) -/

/-- Two bytes as one value. -/
def be16 (b1 b0 : Byte) : BitVec 16 := b1 ++ b0

/-- Four bytes as one value. -/
def be32 (b3 b2 b1 b0 : Byte) : BitVec 32 := b3 ++ b2 ++ b1 ++ b0

/-- Eight bytes as one value. -/
def be64 (b7 b6 b5 b4 b3 b2 b1 b0 : Byte) : BitVec 64 := b7 ++ b6 ++ b5 ++ b4 ++ b3 ++ b2 ++ b1 ++ b0

/-- The bytes of a value of two bytes. -/
def bytes16 (v : BitVec 16) : List Byte := [v.extractLsb' 8 8, v.extractLsb' 0 8]

/-- The bytes of a value of four bytes. -/
def bytes32 (v : BitVec 32) : List Byte :=
  [v.extractLsb' 24 8, v.extractLsb' 16 8, v.extractLsb' 8 8, v.extractLsb' 0 8]

/-- The bytes of a value of eight bytes. -/
def bytes64 (v : BitVec 64) : List Byte :=
  [v.extractLsb' 56 8, v.extractLsb' 48 8, v.extractLsb' 40 8, v.extractLsb' 32 8, v.extractLsb' 24 8, v.extractLsb' 16 8,
    v.extractLsb' 8 8, v.extractLsb' 0 8]

/-- Steps in the step encoding, 5 bytes each (section 12.4); none where the bytes are no whole number of steps. -/
def parseSteps : List Byte → Option (List StepBytes)
  | [] => some []
  | k :: x1 :: x0 :: y1 :: y0 :: rest =>
    (parseSteps rest).map fun l => { kind := k, x := be16 x1 x0, y := be16 y1 y0 } :: l
  | _ => none

/-- The bytes of steps in the step encoding. -/
def stepsBytes (steps : List StepBytes) : List Byte := steps.flatMap fun b => b.kind :: (bytes16 b.x ++ bytes16 b.y)

/-! ### The request table (section 12.3) -/

/-- A request without a body. -/
def body0 (i : Instr) : List Byte → Option Instr
  | [] => some i
  | _ => none

/-- A request with a body of one byte. -/
def body1 (f : Byte → Instr) : List Byte → Option Instr
  | [x] => some (f x)
  | _ => none

/-- A request with a body of two fields of one byte. -/
def body2 (f : Byte → Byte → Instr) : List Byte → Option Instr
  | [x, y] => some (f x y)
  | _ => none

/-- The body of SET_TRIM. -/
def bodySetTrim : List Byte → Option Instr
  | [slot, t1, t0] => some (.setTrim slot (be16 t1 t0))
  | _ => none

/-- The body of SET_LIMITS. -/
def bodySetLimits : List Byte → Option Instr
  | [slot, l1, l0, h1, h0] => some (.setLimits slot (be16 l1 l0) (be16 h1 h0))
  | _ => none

/-- The body of CREATE_PROGRAM. -/
def bodyCreateProgram : List Byte → Option Instr
  | [p, l1, l0] => some (.createProgram p (be16 l1 l0))
  | _ => none

/-- The body of WRITE_STEPS: 3 + 5n bytes for a whole n (R186). -/
def bodyWriteSteps : List Byte → Option Instr
  | p :: s1 :: s0 :: rest => (parseSteps rest).map fun steps => .writeSteps p (be16 s1 s0) steps
  | _ => none

/-- The body of READ_STEPS. -/
def bodyReadSteps : List Byte → Option Instr
  | [p, s1, s0, n] => some (.readSteps p (be16 s1 s0) n)
  | _ => none

/-- The body of ADD_EDIT. -/
def bodyAddEdit : List Byte → Option Instr
  | [set, slot, kind, program, e3, e2, e1, e0, lead, o1, o0, mirror, present, l1, l0, h1, h0] =>
    some (.addEdit set slot
      { kind, program, entryCourse := be32 e3 e2 e1 e0, leadSlot := lead, offset := be16 o1 o0, mirror,
        limitsPresent := present, low := be16 l1 l0, high := be16 h1 h0 })
  | _ => none

/-- The body of COMMIT_SET. -/
def bodyCommitSet : List Byte → Option Instr
  | [set, e3, e2, e1, e0] => some (.commitSet set (be32 e3 e2 e1 e0))
  | _ => none

/-- The body of SET_PROFILE. -/
def bodySetProfile : List Byte → Option Instr
  | [n, a1, a0, n1, n0, t1, t0, m, os1, os0, oe1, oe0, us1, us0, ue1, ue0] =>
    some (.setProfile n
      { tAcc := be16 a1 a0, tNs := be16 n1 n0, tSet := be16 t1 t0, shogMax := m, os := be16 os1 os0, oe := be16 oe1 oe0,
        us := be16 us1 us0, ue := be16 ue1 ue0 })
  | _ => none

/-- The body of SET_SPEED_CAP. -/
def bodySetSpeedCap : List Byte → Option Instr
  | [v1, v0] => some (.setSpeedCap (be16 v1 v0))
  | _ => none

/-- The body of QUERY_COURSE. -/
def bodyQueryCourse : List Byte → Option Instr
  | [c3, c2, c1, c0, first] => some (.queryCourse (be32 c3 c2 c1 c0) first)
  | _ => none

/-- The body of SET_FRAME. -/
def bodySetFrame : List Byte → Option Instr
  | [e, m7, m6, m5, m4, m3, m2, m1, m0, d, s1, s0, t1, t0] =>
    some (.setFrame
      { gauge := e, fitted := be64 m7 m6 m5 m4 m3 m2 m1 m0, d, sMax := be16 s1 s0, tolerance := be16 t1 t0 })
  | _ => none

/-- The body of SET_PIECE_LENGTH. -/
def bodySetPieceLength : List Byte → Option Instr
  | [l3, l2, l1, l0] => some (.setPieceLength (be32 l3 l2 l1 l0))
  | _ => none

/-- The request table: each code with the reading of its body, which answers none for a body of another length
(section 12.3). -/
def requestTable : List (Nat × (List Byte → Option Instr)) :=
  [(16, body1 .bind), (17, body1 .park), (18, body2 .setAddress), (19, body2 .setBarProfile), (20, bodySetTrim),
    (21, bodySetLimits), (22, body1 .queryBar), (23, body1 .recover)]
  ++ [(32, bodyCreateProgram), (33, bodyWriteSteps), (34, body1 .sealProgram), (35, body1 .retireProgram),
    (36, body1 .queryProgram), (37, bodyReadSteps), (38, body0 .queryStore)]
  ++ [(48, body1 .openSet), (49, bodyAddEdit), (50, body2 .dropEdit), (51, bodyCommitSet), (52, body1 .cancelSet),
    (53, body1 .discardSet), (54, body1 .querySet)]
  ++ [(64, bodySetProfile), (65, body1 .queryProfile), (80, bodySetSpeedCap), (81, body0 .queryMotion),
    (82, bodyQueryCourse), (96, body0 .retrain), (97, body0 .queryRing)]
  ++ [(112, body0 .queryAlerts), (113, body1 .ackAlert), (114, body2 .setAlertLevel), (115, body1 .setStopThreshold),
    (116, body0 .clearHalt)]
  ++ [(128, bodySetFrame), (129, body0 .queryFrame), (130, bodySetPieceLength), (131, body0 .startPieces),
    (132, body0 .pausePieces), (133, body0 .clearPieces), (134, body0 .queryPieces)]
  ++ [(240, body0 .restart), (241, body0 .queryStatus)]

/-- The reading of the body that a request code has, absent for a code not in the table. -/
def bodyReader (code : Byte) : Option (List Byte → Option Instr) :=
  (requestTable.find? fun row => row.1 == code.toNat).map (·.2)

/-! ### Messages (R184, R186) -/

/-- What the bytes shifted in during one transaction are (R184, R186). -/
inductive Message where
  /-- No whole byte was shifted in: ignored. -/
  | ignored
  /-- A first byte of 0: a read of the held response, with the number of bytes clocked. -/
  | readTransaction (places : Nat)
  /-- A request message whose code is not in the request table: UNKNOWN. -/
  | unknownCode
  /-- A request message whose length byte or body does not fit its code: BAD_LENGTH. -/
  | badLength
  /-- The message of a request. -/
  | request (i : Instr)
  deriving DecidableEq, Repr

/-- The bytes shifted in during one transaction, read (R184, R186). -/
def parseMessage : List Byte → Message
  | [] => .ignored
  | code :: rest =>
    if code = 0 then .readTransaction (rest.length + 1)
    else
      match bodyReader code with
      | none => .unknownCode
      | some reader =>
        match rest with
        | [] => .badLength
        | length :: body =>
          if length.toNat = body.length then
            match reader body with
            | some i => .request i
            | none => .badLength
          else .badLength

/-- The code and body of a request; none for a command that is no request (sections 12.3 and 12.4). -/
def requestParts : Instr → Option (Byte × List Byte)
  | .bind slot => some (16, [slot])
  | .park slot => some (17, [slot])
  | .setAddress slot address => some (18, [slot, address])
  | .setBarProfile slot profile => some (19, [slot, profile])
  | .setTrim slot trim => some (20, slot :: bytes16 trim)
  | .setLimits slot low high => some (21, slot :: (bytes16 low ++ bytes16 high))
  | .queryBar slot => some (22, [slot])
  | .recover slot => some (23, [slot])
  | .createProgram program length => some (32, program :: bytes16 length)
  | .writeSteps program start steps => some (33, program :: (bytes16 start ++ stepsBytes steps))
  | .sealProgram program => some (34, [program])
  | .retireProgram program => some (35, [program])
  | .queryProgram program => some (36, [program])
  | .readSteps program start count => some (37, program :: (bytes16 start ++ [count]))
  | .queryStore => some (38, [])
  | .openSet set => some (48, [set])
  | .addEdit set slot e =>
    some (49, [set, slot, e.kind, e.program] ++ bytes32 e.entryCourse ++ [e.leadSlot] ++ bytes16 e.offset
      ++ [e.mirror, e.limitsPresent] ++ bytes16 e.low ++ bytes16 e.high)
  | .dropEdit set slot => some (50, [set, slot])
  | .commitSet set e => some (51, set :: bytes32 e)
  | .cancelSet set => some (52, [set])
  | .discardSet set => some (53, [set])
  | .querySet set => some (54, [set])
  | .setProfile n p =>
    some (64, [n] ++ bytes16 p.tAcc ++ bytes16 p.tNs ++ bytes16 p.tSet ++ [p.shogMax] ++ bytes16 p.os ++ bytes16 p.oe
      ++ bytes16 p.us ++ bytes16 p.ue)
  | .queryProfile n => some (65, [n])
  | .setSpeedCap speed => some (80, bytes16 speed)
  | .queryMotion => some (81, [])
  | .queryCourse course first => some (82, bytes32 course ++ [first])
  | .retrain => some (96, [])
  | .queryRing => some (97, [])
  | .queryAlerts => some (112, [])
  | .ackAlert kind => some (113, [kind])
  | .setAlertLevel kind level => some (114, [kind, level])
  | .setStopThreshold threshold => some (115, [threshold])
  | .clearHalt => some (116, [])
  | .setFrame f =>
    some (128, [f.gauge] ++ bytes64 f.fitted ++ [f.d] ++ bytes16 f.sMax ++ bytes16 f.tolerance)
  | .queryFrame => some (129, [])
  | .setPieceLength length => some (130, bytes32 length)
  | .startPieces => some (131, [])
  | .pausePieces => some (132, [])
  | .clearPieces => some (133, [])
  | .queryPieces => some (134, [])
  | .restart => some (240, [])
  | .queryStatus => some (241, [])
  | .ordinaryStep _ => none
  | .skippedCount => none
  | .indexWithoutStep _ => none
  | .forwardCourseEntry _ => none
  | .reverseCourseEntry => none
  | .stallTimerExpiry => none
  | .emergencyInputActive => none
  | .emergencyInputInactive => none
  | .speedMessageEnd => none
  | .planningStart => none
  | .planningEnd => none
  | .frameSend => none
  | .markerReturn _ => none
  | .markerLost => none
  | .partFrameReturn _ => none
  | .frameDeclaredLost => none
  | .idleTimerExpiry => none
  | .retryExpiry _ => none
  | .bindAck _ => none
  | .done _ => none
  | .fault _ => none
  | .sealEnd => none
  | .read _ => none
  | .busy _ => none
  | .unknown _ => none
  | .warmResetComplete _ => none
  | .coldReset _ _ _ _ => none

/-- The message of a request: code, body length byte, body (R184); none for a command that is no request. -/
def encodeRequest (i : Instr) : Option (List Byte) :=
  (requestParts i).map fun cb => cb.1 :: BitVec.ofNat 8 cb.2.length :: cb.2

end Sys2Proof
end

