-- ==== Sys2Proof/Config.lean ====
section
/-! DEFINITION. What is fixed for the part by its manual: the sizes of its tables. The manual leaves no result of a command
undefined and no value to the implementation, so there is no free value here. -/

namespace Sys2Proof.Config

/-- The bar records, one for each slot 0 to 63 (chapter 2). -/
abbrev slotCount : Nat := 64

/-- The profile records 0 to 7 (R96), and the region trackers, one for each (chapter 8). -/
abbrev profileCount : Nat := 8

/-- The change sets 0 to 3 (section 5.1). -/
abbrev setCount : Nat := 4

/-- The alert kinds 0 to 15 (R166). -/
abbrev alertCount : Nat := 16

/-- The pages of the Pattern Store (R39). -/
abbrev pageCount : Nat := 512

/-- The steps of one page (R39). -/
abbrev pageSteps : Nat := 256

/-- The highest course number (Terms, C). -/
abbrev courseMax : Nat := 2147483647

end Sys2Proof.Config
end

