-- ==== Sys2Proof/Machine/Blocks.lean ====
section
/-! DEFINITION. The state each of the eleven blocks owns, as plain data, in the manual's own terms. -/

namespace Sys2Proof.Machine

/-- A table kept as a list of keys and values. Its one canonical form is `KMap.wf`: the keys rise strictly, so two tables
that hold the same are equal data. -/
structure KMap (α : Type) where
  cells : List (Nat × α)
  deriving DecidableEq, Repr

/-! ### Shaft Tracker (chapter 1) -/

/-- A direction of turning (R1), also the side of an overrun (R2) and a heading (R134). -/
inductive Dir where
  | forward
  | reverse
  deriving DecidableEq, Repr

/-- The shaft state (R8). -/
inductive ShaftState where
  | stopped
  | forward
  | reverse
  deriving DecidableEq, Repr

/-- The state of the Shaft Tracker (chapter 1); `levelA` and `levelB` are the channel levels before the next change (R1, R15). -/
structure Shaft where
  levelA : Bool
  levelB : Bool
  angle : Nat
  overrun : Nat
  overrunSide : Dir
  slipRaised : Bool
  angleFound : Bool
  state : ShaftState
  stall : Nat
  c : Nat
  hold : Nat
  runStart : Option Nat
  period : Option Nat
  deriving DecidableEq, Repr

/-- The course entry report (R5). -/
structure CourseReport where
  dir : Dir
  cChanged : Bool
  c : Nat
  hold : Nat
  angleBefore : Nat
  periodValid : Bool
  deriving DecidableEq, Repr

/-! ### Bar Table (chapter 2) -/

/-- The seven states of a bar (chapter 2). -/
inductive BarState where
  | unfitted
  | parked
  | binding
  | idle
  | engaged
  | faulted
  | rebinding
  deriving DecidableEq, Repr

/-- What a bar does in the pattern (chapter 2). -/
inductive Assignment where
  | none
  | lead (program : Nat)
  | follow (lead : Nat) (offset : Int) (mirror : Bool)
  deriving DecidableEq, Repr

/-- One frame of a loop stack (R59). -/
structure LoopFrame where
  openIndex : Nat
  iteration : Nat
  count : Nat
  deriving DecidableEq, Repr

/-- A cursor (R59); the loop stack is oldest first. -/
structure Cursor where
  program : Nat
  index : Nat
  course : Nat
  stack : List LoopFrame
  deriving DecidableEq, Repr

/-- The region whose side position a move goes to (R133). -/
inductive Side where
  | pre
  | between
  | post
  deriving DecidableEq, Repr

/-- What an outstanding move was sent for (chapter 8). -/
inductive MoveKind where
  | pattern
  | leadin
  | recovery
  deriving DecidableEq, Repr

/-- An outstanding move (chapter 2), with its move kind, which is present exactly while the move is (chapter 8;
log 26). -/
structure Move where
  tag : Nat
  target : Int
  counts : Int
  side : Side
  kind : MoveKind
  deriving DecidableEq, Repr

/-- A bar record (chapter 2). -/
structure Bar where
  state : BarState
  address : Nat
  profile : Nat
  trim : Int
  low : Int
  high : Int
  assignment : Assignment
  cursor : Option Cursor
  position : Int
  move : Option Move
  leadInLate : Bool
  driveFault : Nat
  pinned : Bool
  deriving DecidableEq, Repr

/-! ### Pattern Store (chapter 3) -/

/-- A step of a program (R41). -/
inductive Step where
  | course (a b : Nat)
  | loopOpen (count partner : Nat)
  | loopClose (partner : Nat)
  deriving DecidableEq, Repr

/-- The fields a SEALED entry holds beside those of every entry (R40). -/
structure SealInfo where
  courseLength : Nat
  depth : Nat
  refs : Nat
  deriving DecidableEq, Repr

/-- An entry of the program table (R40). Its state is SEALED exactly while `sealInfo` is present (log 26). -/
structure Program where
  length : Nat
  pages : List Nat
  written : Nat
  sealInfo : Option SealInfo
  deriving DecidableEq, Repr

/-- The contents of the pages: the cell of page g, offset o has the address 256 g + o (R39). -/
abbrev Memory := KMap Step

/-- The Pattern Store (chapter 3): the free pages in rising order, the program table and the contents of the pages. -/
structure PatternStore where
  free : List Nat
  programs : KMap Program
  memory : Memory
  deriving DecidableEq, Repr

/-! ### Change Set Unit (chapter 5) -/

/-- The assignment of an edit with the fields of its kind (R80). -/
inductive EditAssignment where
  | lead (program entry : Nat)
  | follow (lead : Nat) (offset : Int) (mirror : Bool)
  | withdrawn
  deriving DecidableEq, Repr

/-- An edit (R80); its slot is the key it stands under. -/
structure Edit where
  assignment : EditAssignment
  limits : Option (Int × Int)
  deriving DecidableEq, Repr

/-- A change set (R77): each state with the fields of that state; the edits stand in slot order. -/
inductive ChangeSet where
  | free
  | opened (edits : KMap Edit)
  | committed (edits : KMap Edit) (e : Nat)
  deriving DecidableEq, Repr

/-- The Change Set Unit (section 5.1); the commit list is oldest first. -/
structure ChangeSets where
  sets : List ChangeSet
  commitList : List Nat
  deriving DecidableEq, Repr

/-! ### Profile Table (chapter 6) -/

/-- A drive profile (R96). -/
structure Profile where
  tAcc : Nat
  tNs : Nat
  tSet : Nat
  shogMax : Nat
  os : Nat
  oe : Nat
  us : Nat
  ue : Nat
  deriving DecidableEq, Repr

/-! ### Course Planner (chapter 7) -/

/-- The blocked cause of a course record (R111). -/
inductive Cause where
  | none
  | travel
  | shogLimit
  | timing
  deriving DecidableEq, Repr

/-- The role of an entry (R111). -/
inductive Role where
  | lead
  | follow
  | leadin
  deriving DecidableEq, Repr

/-- An entry of a course record (R111). `pair` is (a, b), absent for LEADIN; d_o is `Entry.dO`. -/
structure Entry where
  slot : Nat
  role : Role
  pair : Option (Int × Int)
  u : Int
  dU : Nat
  deriving DecidableEq, Repr

/-- A course record (R111). -/
structure CourseRecord where
  course : Nat
  ceiling : Nat
  cause : Cause
  offending : Option Nat
  entries : List Entry
  deriving DecidableEq, Repr

/-- The assignment and travel limits of one slot in a configuration (R113). -/
structure BarConfig where
  assignment : Assignment
  low : Int
  high : Int
  deriving DecidableEq, Repr

/-- A configuration, one `BarConfig` per slot, with the cursors of its leads (R113). -/
structure Layout where
  config : List BarConfig
  cursors : KMap Cursor
  deriving DecidableEq, Repr

/-- The Course Planner (chapter 7). `layout` is the plan configuration and the plan cursors; `planning` says that the
planning of course `horizon + 1` is in flight; `horizon` is H. -/
structure Planner where
  current : CourseRecord
  queue : List CourseRecord
  horizon : Nat
  planning : Bool
  suspended : Bool
  planPosition : Nat
  layout : Layout
  floor : Nat
  sCap : Nat
  p : Nat
  deriving DecidableEq, Repr

/-- The speed line (R127): the message being sent, and whether another is pending. -/
structure SpeedLine where
  sending : Option (List Byte)
  again : Bool
  deriving DecidableEq, Repr

/-! ### Move Unit (chapter 8) -/

/-- The regions of a course (R133). -/
inductive Region where
  | pre
  | overlap
  | between
  | underlap
  | post
  deriving DecidableEq, Repr

/-- A region tracker (chapter 8). -/
structure Tracker where
  region : Region
  heading : Dir
  deriving DecidableEq, Repr

/-- The Move Unit (chapter 8); the outstanding moves stand in the bar records. The start points of each bar's last command are the
model's own record (R137, R146; DEDUCED, log 37). -/
structure MoveUnit where
  trackers : List Tracker
  held : CourseRecord
  nextRecord : Option CourseRecord
  heldHold : Nat
  nextTags : List Nat
  starts : List (Option Int)
  deriving DecidableEq, Repr

/-! ### Drive Ring Controller (chapter 9) -/

/-- The ring state (R150). -/
inductive RingState where
  | down
  | training
  | up
  deriving DecidableEq, Repr

/-- A frame of the send queue (R153). A MOVE's contents are fixed when it is handed, a BIND's are read when it is sent. -/
inductive QueuedFrame where
  | marker
  | bind (address slot : Nat)
  | unbind (address : Nat)
  | move (address tag : Nat) (counts : Int) (budget : Nat)
  deriving DecidableEq, Repr

/-- An entry of the transit list (R152). -/
structure Transit where
  seq : Byte
  bytes : List Byte
  sentAt : Nat
  deriving DecidableEq, Repr

/-- A binding attempt (R157); the timer is absent while it is stopped. -/
structure Attempt where
  count : Nat
  timer : Option Nat
  silentRaised : Bool
  deriving DecidableEq, Repr

/-- The Drive Ring Controller (chapter 9). `out` is the frame last put on the ring output, the model's own
record of a pin (DESIGN CHOICE, log 25). -/
structure Ring where
  state : RingState
  markerRun : Nat
  losses : Nat
  nextSeq : Byte
  transit : List Transit
  queue : List QueuedFrame
  idle : Nat
  attempts : KMap Attempt
  out : List Byte
  deriving DecidableEq, Repr

/-! ### Alert Unit (chapter 10) -/

/-- The sixteen alert kinds in the order of their numbers (R166). -/
inductive AlertKind where
  | emergency
  | blockedEntry
  | overspeed
  | late
  | position
  | driveFault
  | linkLost
  | starved
  | travel
  | shogLimit
  | reverseFloor
  | shaftSlip
  | driveSilent
  | pieceEnd
  | barReady
  | setApplied
  deriving DecidableEq, Repr

/-- An alert record (R166). -/
structure AlertRecord where
  pending : Bool
  count : Nat
  slot : Option Nat
  course : Option Nat
  deriving DecidableEq, Repr

/-- The Alert Unit (chapter 10); records and levels stand in kind order. -/
structure AlertUnit where
  records : List AlertRecord
  levels : List Nat
  threshold : Nat
  haltLatch : Bool
  emergencyActive : Bool
  attention : Bool
  stop : Bool
  deriving DecidableEq, Repr

/-! ### Frame Register and Piece Counter (chapter 11) -/

/-- The frame constants (R177). -/
structure FrameConstants where
  gauge : Nat
  fitted : BitVec 64
  d : Nat
  sMax : Nat
  tolerance : Nat
  deriving DecidableEq, Repr

/-- The piece state (R182). -/
inductive PieceState where
  | paused
  | counting
  deriving DecidableEq, Repr

/-- The piece counter (chapter 11). -/
structure PieceCounter where
  state : PieceState
  preload : Nat
  count : Nat
  pieces : Nat
  deriving DecidableEq, Repr

/-! ### Pattern Port (chapter 12) -/

/-- The statuses, in the order of the status code table of section 12.4 (code 17 is not used). -/
inductive Status where
  | ok
  | pending
  | busy
  | unknown
  | badLength
  | badSlot
  | badState
  | badValue
  | noFrame
  | writtenOnce
  | addressTaken
  | inUse
  | pinned
  | referenced
  | noSpace
  | notFound
  | exists_
  | incomplete
  | structure_
  | tooLong
  | tooLate
  | order
  | leadInvalid
  | window
  | moving
  | inputActive
  deriving DecidableEq, Repr

/-- What an owning block answers: a status and a response body. -/
structure Reply where
  status : Status
  body : List Byte
  deriving DecidableEq, Repr

/-- The held response (chapter 12). -/
structure Held where
  reply : Reply
  wasRead : Bool
  deriving DecidableEq, Repr

/-- The requests that stay in flight after they are taken (R186). -/
inductive InFlight where
  | sealing (program : Nat)
  | restart
  deriving DecidableEq, Repr

/-- The kind of the last reset (chapter 12). -/
inductive ResetKind where
  | cold
  | warm
  deriving DecidableEq, Repr

/-- The Pattern Port (chapter 12). The port state is PERFORMING exactly while a request is in flight; `dataOut` holds the
bytes shifted out in the last transaction, the model's own record of a pin (DESIGN CHOICE, log 25). -/
structure Port where
  inFlight : Option InFlight
  held : Option Held
  resetKind : ResetKind
  dataOut : List Byte
  deriving DecidableEq, Repr

end Sys2Proof.Machine
end

