-- ==== Sys2Proof/Machine/Cold.lean ====
section
/-! DEFINITION. The value of each block's state after a cold reset, block by block, as the blocks' reset rules state it. -/

namespace Sys2Proof.Machine

/-- The Shaft Tracker after a cold reset (R15); the channel levels are taken as they stand when the reset ends. -/
def coldShaft (levelA levelB : Bool) : Shaft :=
  { levelA, levelB, angle := 0, overrun := 0, overrunSide := .forward, slipRaised := false, angleFound := false,
    state := .stopped, stall := 500000, c := 0, hold := 0, runStart := none, period := none }

/-- A bar record with every field at its cold value (chapter 2, R37). -/
def coldBar : Bar :=
  { state := .unfitted, address := 0, profile := 0, trim := 0, low := 0, high := 511, assignment := .none,
    cursor := none, position := 0, move := none, leadInLate := false, driveFault := 0, pinned := false }

/-- The Bar Table after a cold reset (R37). -/
def coldBars : List Bar := List.replicate Config.slotCount coldBar

/-- The Pattern Store after a cold reset (R57). -/
def coldStore : PatternStore :=
  { free := List.range Config.pageCount, programs := ⟨[]⟩, memory := ⟨[]⟩ }

/-- The Change Set Unit after a cold reset (R95). -/
def coldSets : ChangeSets := { sets := List.replicate Config.setCount .free, commitList := [] }

/-- A profile record at its cold values (R96). -/
def coldProfile : Profile :=
  { tAcc := 3000, tNs := 500, tSet := 400, shogMax := 48, os := 128, oe := 320, us := 576, ue := 896 }

/-- The Profile Table after a cold reset (R110). -/
def coldProfiles : List Profile := List.replicate Config.profileCount coldProfile

/-- The record of course 0 after a cold reset (R131, R149). -/
def coldRecord : CourseRecord := { course := 0, ceiling := 0, cause := .none, offending := none, entries := [] }

/-- A slot with no assignment and its cold limits, as the plan configuration gives it after a cold reset (R131, R37). -/
def coldConfig : BarConfig := { assignment := .none, low := 0, high := 511 }

/-- The Course Planner after a cold reset (R131). -/
def coldPlanner : Planner :=
  { current := coldRecord, queue := [], horizon := 0, planning := false, suspended := false, planPosition := 1,
    layout := { config := List.replicate Config.slotCount coldConfig, cursors := ⟨[]⟩ }, floor := 0, sCap := 0, p := 0 }

/-- The speed line after a cold reset: the message carrying P = 0 that the end of the reset wants is being sent (R127);
its three bytes are P, most significant byte first, and their check byte (R164). DESIGN CHOICE, log 23: a message under way
when the reset began is gone. -/
def coldSpeedLine : SpeedLine := { sending := some [0, 0, 0], again := false }

/-- The Move Unit after a cold reset (R149). -/
def coldMoves : MoveUnit :=
  { trackers := List.replicate Config.profileCount { region := .pre, heading := .forward }, held := coldRecord,
    nextRecord := none, heldHold := 0, nextTags := List.replicate Config.slotCount 0,
    starts := List.replicate Config.slotCount none }

/-- The Drive Ring Controller after a cold reset (R165). -/
def coldRing : Ring :=
  { state := .down, markerRun := 0, losses := 0, nextSeq := 0, transit := [], queue := [], idle := 0, attempts := ⟨[]⟩,
    out := [] }

/-- An alert record with nothing pending (R176). -/
def clearAlert : AlertRecord := { pending := false, count := 0, slot := none, course := none }

/-- The default levels of R166, in kind order. -/
def defaultLevels : List Nat := [0, 1, 2, 2, 3, 2, 2, 3, 6, 6, 4, 4, 8, 10, 12, 12]

/-- The Alert Unit after a cold reset (R176); the emergency input is taken as it stands when the reset ends (R172). -/
def coldAlerts (emergencyActive : Bool) : AlertUnit :=
  { records := List.replicate Config.alertCount clearAlert, levels := defaultLevels, threshold := 15, haltLatch := true,
    emergencyActive, attention := false, stop := true }

/-- The piece counter after a cold reset (R183). -/
def coldPieces : PieceCounter := { state := .paused, preload := 480, count := 480, pieces := 0 }

/-- The Pattern Port after a cold reset (R188). -/
def coldPort : Port := { inFlight := none, held := none, resetKind := .cold, dataOut := [] }

end Sys2Proof.Machine
end

