-- ==== Sys2Proof/Machine/State.lean ====
section
/-! DEFINITION. The state of the part, the reasons a step can stop, and the state right after a cold reset. -/

namespace Sys2Proof.Machine

/-- The reasons a step can end in a fault: none. The manual describes no condition that stops the part. -/
inductive Fault where
  deriving DecidableEq, Repr

/-- The reasons a step can be refused. -/
inductive Refusal where
  /-- Raised by `exec` for a command that has no meaning in this model; safe, since the model stops. No arm raises it. -/
  | notModelled (mnemonic : String)
  deriving DecidableEq, Repr

/-- Everything the manual gives the part, block by block, with the model's own clock `now` (log 2) and the queue of the
commands that are waiting, first in, first out (log 1). -/
structure State where
  shaft : Shaft
  bars : List Bar
  store : PatternStore
  changes : ChangeSets
  profiles : List Profile
  plan : Planner
  speedLine : SpeedLine
  moves : MoveUnit
  ring : Ring
  alerts : AlertUnit
  frame : Option FrameConstants
  pieces : PieceCounter
  port : Port
  now : Nat
  pending : List Instr
  deriving DecidableEq, Repr

/-- The part at the end of a cold reset (R188) that finds the encoder channels and the emergency input at these levels. -/
def coldState (levelA levelB emergencyActive : Bool) : State :=
  { shaft := coldShaft levelA levelB, bars := coldBars, store := coldStore, changes := coldSets,
    profiles := coldProfiles, plan := coldPlanner, speedLine := coldSpeedLine, moves := coldMoves, ring := coldRing,
    alerts := coldAlerts emergencyActive, frame := none, pieces := coldPieces, port := coldPort, now := 0, pending := [] }

/-- The part right after a cold reset. DESIGN CHOICE, log 4: both encoder channels low and the emergency input inactive. -/
def State.reset : State := coldState false false false

end Sys2Proof.Machine
end

