-- ==== Sys2Proof/Machine/Flags.lean ====
section
/-! DEFINITION. What the part derives from its state: the attention line and the stop line, whether a bar is bound-side,
engaged or binding, the configuration horizon F, the measured speed and the permitted speed. -/

namespace Sys2Proof.Machine

/-! ### Lines (chapter 10) -/

/-- Whether some pending record has a level below `bound` (R170, R171). -/
def AlertUnit.pendingBelow (u : AlertUnit) (bound : Nat) : Bool :=
  (u.records.zip u.levels).any (fun rl => rl.1.pending && decide (rl.2 < bound))

/-- What the attention line is: asserted while some pending kind has a level below 15 (R170). -/
def AlertUnit.attentionDue (u : AlertUnit) : Bool := u.pendingBelow 15

/-- What the stop line is: asserted while the halt latch is set or some pending level is below the threshold (R171). -/
def AlertUnit.stopDue (u : AlertUnit) : Bool := u.haltLatch || u.pendingBelow u.threshold

/-- The Alert Unit with both lines recomputed (R170, R171). -/
def AlertUnit.recompute (u : AlertUnit) : AlertUnit := { u with attention := u.attentionDue, stop := u.stopDue }

/-! ### Bars (chapter 2) -/

/-- A bar with a fitted slot is in any state but UNFITTED (R17, R18). -/
def BarState.isFitted (b : BarState) : Bool := b != .unfitted

/-- The bound-side states (section 2.2). -/
def BarState.isBoundSide : BarState → Bool
  | .unfitted | .parked => false
  | .binding | .idle | .engaged | .faulted | .rebinding => true

/-- The states in which a binding attempt runs (R19). -/
def BarState.isBinding : BarState → Bool
  | .binding | .rebinding => true
  | .unfitted | .parked | .idle | .engaged | .faulted => false

/-- The states of a bar engaged in the pattern (chapter 2, table of states). -/
def BarState.isEngaged : BarState → Bool
  | .engaged | .faulted | .rebinding => true
  | .unfitted | .parked | .binding | .idle => false

/-- The states that hold P at 0 (R126). -/
def BarState.holdsSpeed : BarState → Bool
  | .faulted | .rebinding => true
  | .unfitted | .parked | .binding | .idle | .engaged => false

/-- Whether a bar keeps its profile in use (R100): engaged in the pattern, or pinned. -/
def Bar.usesProfile (b : Bar) : Bool := b.state.isEngaged || b.pinned

/-- The lowest fitted slot that makes a profile in use (R100), absent where none does. -/
def State.profileUser (s : State) (profile : Nat) : Option Nat :=
  s.bars.findIdx? (fun b => b.state.isFitted && b.profile == profile && b.usesProfile)

/-! ### Speed (chapters 1 and 7) -/

/-- The measured speed in cpm (R14): 0 where the period is absent. -/
def Shaft.measuredSpeed (t : Shaft) : Nat :=
  match t.period with
  | some period => min 9999 (60000000 / period)
  | none => 0

/-- The configuration horizon F (R87, chapter 7). -/
def Planner.f (p : Planner) : Nat := if p.planning then p.horizon + 2 else p.horizon + 1

/-- The records that bound P: that of course C, then those of the queue (R126). -/
def Planner.records (p : Planner) : List CourseRecord := p.current :: p.queue

/-- The least of S_cap, the horizon term and the ceiling terms, with deceleration `d` at course `c` (R126). -/
def Planner.speedBound (p : Planner) (c d : Nat) : Nat :=
  p.records.foldl (fun m r => min m (r.ceiling + (r.course - c) * d)) (min p.sCap ((p.horizon + 1 - c) * d))

/-- Whether some bar holds P at 0 (R126). -/
def State.barHoldsSpeed (s : State) : Bool := s.bars.any (fun b => b.state.holdsSpeed)

/-- What the permitted speed P is (R126); 0 while the frame is unwritten (R179). -/
def State.permittedSpeed (s : State) : Nat :=
  match s.frame with
  | none => 0
  | some frame => if s.alerts.stop || s.barHoldsSpeed then 0 else s.plan.speedBound s.shaft.c frame.d

/-! ### Frame constants (R179) -/

/-- The gauge E; the value 0 stands for an absent gauge, which no bar's conversion reads (log 10). -/
def State.gauge (s : State) : Nat := (s.frame.map (·.gauge)).getD 0

/-- S_max; 0 while the frame is unwritten. -/
def State.sMax (s : State) : Nat := (s.frame.map (·.sMax)).getD 0

/-- The tolerance; 0 while the frame is unwritten. -/
def State.tolerance (s : State) : Nat := (s.frame.map (·.tolerance)).getD 0

/-- Whether the frame constants are written (R177). -/
def State.frameWritten (s : State) : Bool := s.frame.isSome

end Sys2Proof.Machine
end

