-- ==== Sys2Proof/Machine/Frames.lean ====
section
/-! DEFINITION. Bytes: multi-byte values, the check byte, the frames of the drive ring (section 9.7) and the speed message. -/

namespace Sys2Proof.Machine

/-- A number in n bytes, most significant byte first. -/
def beBytes : Nat → Nat → List Byte
  | 0, _ => []
  | n + 1, v => BitVec.ofNat 8 (v / 256 ^ n) :: beBytes n v

/-- A signed number in n bytes, two's complement, most significant byte first. -/
def beSigned (n : Nat) (v : Int) : List Byte := beBytes n (v % (256 ^ n : Int)).toNat

/-- One bit of the division of R164: the remainder is shifted left and reduced by x^8 + x^2 + x + 1. -/
def crcBit (c : Byte) : Byte := if c.msb then (c <<< 1) ^^^ 7#8 else c <<< 1

/-- The remainder after one more byte (R164). -/
def crcByte (c b : Byte) : Byte :=
  crcBit (crcBit (crcBit (crcBit (crcBit (crcBit (crcBit (crcBit (c ^^^ b))))))))

/-- The CRC-8 over a list of bytes (R164). -/
def crc (bytes : List Byte) : Byte := bytes.foldl crcByte 0

/-- Bytes with their check byte after them (R164). -/
def withCheck (bytes : List Byte) : List Byte := bytes ++ [crc bytes]

/-- The three bytes of a speed message (R127). -/
def speedMessage (p : Nat) : List Byte := withCheck (beBytes 2 p)

/-- The length in bytes of each kind of ring frame by its code, absent for a code of no kind (section 9.7). -/
def frameLength (kind : Nat) : Option Nat :=
  match kind with
  | 1 => some 4
  | 2 => some 13
  | 3 => some 4
  | 4 => some 13
  | 9 => some 9
  | 10 => some 9
  | 11 => some 5
  | _ => none

/-- Whether a frame passes the check of its length, kind and check byte (R161). -/
def frameSound (bytes : List Byte) : Bool :=
  match bytes with
  | [] => false
  | kind :: _ => decide (frameLength kind.toNat = some bytes.length) && decide (crc bytes = 0)

/-- The bytes of a MARKER before its check byte (section 9.7). -/
def markerBytes (seq : Byte) : List Byte := [1, 127, seq]

/-- The bytes of a BIND before its check byte (R159, section 9.7). -/
def bindBytes (address slot : Nat) (p : Profile) (pitch : Nat) (seq : Byte) : List Byte :=
  [2, BitVec.ofNat 8 address, seq, BitVec.ofNat 8 slot] ++ beBytes 2 p.tAcc ++ beBytes 2 p.tNs ++ beBytes 2 p.tSet
    ++ beBytes 2 pitch

/-- The bytes of an UNBIND before its check byte (section 9.7). -/
def unbindBytes (address : Nat) (seq : Byte) : List Byte := [3, BitVec.ofNat 8 address, seq]

/-- The bytes of a MOVE before its check byte (section 9.7). -/
def moveBytes (address tag : Nat) (counts : Int) (budget : Nat) (seq : Byte) : List Byte :=
  [4, BitVec.ofNat 8 address, seq, BitVec.ofNat 8 tag] ++ beSigned 4 counts ++ beBytes 4 budget

/-- A BIND_ACK as its drive places it on the ring (section 9.7). -/
def bindAckFrame (address slot : Byte) (counts : BitVec 32) : List Byte :=
  withCheck [9, address, 0, slot, counts.extractLsb' 24 8, counts.extractLsb' 16 8, counts.extractLsb' 8 8,
    counts.extractLsb' 0 8]

/-- A DONE as its drive places it on the ring (section 9.7). -/
def doneFrame (address tag : Byte) (counts : BitVec 32) : List Byte :=
  withCheck [10, address, 0, tag, counts.extractLsb' 24 8, counts.extractLsb' 16 8, counts.extractLsb' 8 8,
    counts.extractLsb' 0 8]

/-- A FAULT as its drive places it on the ring (section 9.7). -/
def faultFrame (address code : Byte) : List Byte := withCheck [11, address, 0, code]

/-- A signed count of four bytes, most significant byte first (section 9.7). -/
def countsOf (b3 b2 b1 b0 : Byte) : Int := (b3 ++ b2 ++ b1 ++ b0).toInt

end Sys2Proof.Machine
end

