-- ==== Sys2Proof/Machine/Table.lean ====
section
/-! DEFINITION. The operations on a table of keys and values that keep its one canonical form, and the memory of the
Pattern Store as such a table. -/

namespace Sys2Proof.Machine

/-- The value under a key. -/
def lookupCell {α : Type} (k : Nat) : List (Nat × α) → Option α
  | [] => none
  | (j, v) :: rest => if j = k then some v else lookupCell k rest

/-- The list with the value under a key set, its keys still rising. -/
def insertCell {α : Type} (k : Nat) (v : α) : List (Nat × α) → List (Nat × α)
  | [] => [(k, v)]
  | (j, w) :: rest =>
    if k < j then (k, v) :: (j, w) :: rest
    else if k = j then (k, v) :: rest
    else (j, w) :: insertCell k v rest

/-- Whether the keys rise strictly. -/
def cellsRise {α : Type} : List (Nat × α) → Bool
  | [] => true
  | [_] => true
  | (j, _) :: (k, w) :: rest => decide (j < k) && cellsRise ((k, w) :: rest)

/-- The value a table holds under a key, absent where it holds none. -/
def KMap.find {α : Type} (m : KMap α) (k : Nat) : Option α := lookupCell k m.cells

/-- The table with a value under a key, in place of any it held there. -/
def KMap.put {α : Type} (m : KMap α) (k : Nat) (v : α) : KMap α := ⟨insertCell k v m.cells⟩

/-- The table with nothing under a key. -/
def KMap.del {α : Type} (m : KMap α) (k : Nat) : KMap α := ⟨m.cells.filter (fun c => c.1 != k)⟩

/-- The table with a function applied to the value under one key, where it holds one. -/
def KMap.modify {α : Type} (m : KMap α) (k : Nat) (f : α → α) : KMap α :=
  ⟨m.cells.map (fun c => if c.1 = k then (c.1, f c.2) else c)⟩

/-- The table with a function of key and value applied to every value. -/
def KMap.mapValues {α : Type} (m : KMap α) (f : Nat → α → α) : KMap α :=
  ⟨m.cells.map (fun c => (c.1, f c.1 c.2))⟩

/-- Whether a table holds a value under a key. -/
def KMap.has {α : Type} (m : KMap α) (k : Nat) : Bool := (m.find k).isSome

/-- The keys of a table, rising. -/
def KMap.keys {α : Type} (m : KMap α) : List Nat := m.cells.map (·.1)

/-- The canonical form of a table: its keys rise strictly. -/
def KMap.wf {α : Type} (m : KMap α) : Bool := cellsRise m.cells

/-- The canonical form of the pages' contents. A cell that nothing has written reads as absent (log 11), so no listed cell
equals what an unlisted one reads as. -/
def Memory.wf (m : Memory) : Bool := KMap.wf m

end Sys2Proof.Machine
end

