-- ==== Sys2Proof/Machine/Timing.lean ====
section
/-! DEFINITION. The arithmetic of shogs: move time, required time, window ceiling (sections 6.3 and 6.4), and the conversions
between needle spaces and drive counts (section 8.6). -/

namespace Sys2Proof.Machine

/-- The whole root of a number, bit by bit: the greatest r' in r..r + 2 ^ bits − 1 with r' × r' at most n, where r × r is. -/
def rootFrom (n : Nat) : Nat → Nat → Nat
  | 0, r => r
  | bits + 1, r =>
    if (r + 2 ^ bits) * (r + 2 ^ bits) ≤ n then rootFrom n bits (r + 2 ^ bits) else rootFrom n bits r

/-- The greatest whole number whose square is at most n, for every n below 4 ^ 32. -/
def floorRoot (n : Nat) : Nat := rootFrom n 32 0

/-- The smallest m with m × m at least n (R105), exact for every n below 4 ^ 32. -/
def ceilRoot (n : Nat) : Nat :=
  if floorRoot n * floorRoot n = n then floorRoot n else floorRoot n + 1

/-- The move time of a shog of d needle spaces (R105): trapezoid or triangle. -/
def Profile.moveTime (p : Profile) (d : Nat) : Nat :=
  if p.tAcc ≤ d * p.tNs then d * p.tNs + p.tAcc else ceilRoot (4 * d * p.tAcc * p.tNs)

/-- The required time of a shog (R107). -/
def Profile.requiredTime (p : Profile) (d : Nat) : Nat := if d = 0 then 0 else p.moveTime d + p.tSet

/-- The width of the overlap window (R97). -/
def Profile.overlapWidth (p : Profile) : Nat := p.oe - p.os

/-- The width of the underlap window (R97). -/
def Profile.underlapWidth (p : Profile) : Nat := p.ue - p.us

/-- The window ceiling of a required time in a window of width w, at most S_max (R108). -/
def windowCeiling (sMax w tReq : Nat) : Nat := if tReq = 0 then sMax else min sMax (1875000 * w / (32 * tReq))

/-- The forward conversion of a position without trim (R148): p × 254,000 ÷ E rounded half up. -/
def forwardCounts (gauge : Nat) (p : Int) : Int := (2 * p * 254000 + gauge) / (2 * gauge)

/-- The target counts of a position for a bar with a trim (R148). -/
def targetCounts (gauge : Nat) (trim p : Int) : Int := forwardCounts gauge p + trim

/-- A position taken as the nearer end of 0..511 where it lies outside (R148). -/
def clampPosition (p : Int) : Int := max 0 (min 511 p)

/-- The inverse conversion of counts into a position (R148), clamped to 0..511; the division rounds down. -/
def countsToPosition (gauge : Nat) (trim c : Int) : Int :=
  clampPosition ((2 * (c - trim) * gauge + 254000) / 508000)

/-- The needle pitch a BIND carries: the forward conversion of one needle space (R159). -/
def pitch (gauge : Nat) : Nat := (forwardCounts gauge 1).toNat

end Sys2Proof.Machine
end

