-- ==== Sys2Proof/Machine/Ops.lean ====
section
/-! DEFINITION. The named operations every block's rules act through: reading and writing the tables, raising an alert, the
speed line, sending on the ring, the send queue, and the change of a bar's state with the binding attempt it carries. -/

namespace Sys2Proof.Machine

/-! ### Updates of one block -/

/-- The state with the Shaft Tracker changed. -/
def State.onShaft (s : State) (f : Shaft → Shaft) : State := { s with shaft := f s.shaft }
/-- The state with the Pattern Store changed. -/
def State.onStore (s : State) (f : PatternStore → PatternStore) : State := { s with store := f s.store }
/-- The state with the Change Set Unit changed. -/
def State.onChanges (s : State) (f : ChangeSets → ChangeSets) : State := { s with changes := f s.changes }
/-- The state with the Course Planner changed. -/
def State.onPlan (s : State) (f : Planner → Planner) : State := { s with plan := f s.plan }
/-- The state with the speed line changed. -/
def State.onSpeedLine (s : State) (f : SpeedLine → SpeedLine) : State := { s with speedLine := f s.speedLine }
/-- The state with the Move Unit changed. -/
def State.onMoves (s : State) (f : MoveUnit → MoveUnit) : State := { s with moves := f s.moves }
/-- The state with the Drive Ring Controller changed. -/
def State.onRing (s : State) (f : Ring → Ring) : State := { s with ring := f s.ring }
/-- The state with the Alert Unit changed. -/
def State.onAlerts (s : State) (f : AlertUnit → AlertUnit) : State := { s with alerts := f s.alerts }
/-- The state with the piece counter changed. -/
def State.onPieces (s : State) (f : PieceCounter → PieceCounter) : State := { s with pieces := f s.pieces }
/-- The state with the Pattern Port changed. -/
def State.onPort (s : State) (f : Port → Port) : State := { s with port := f s.port }
/-- The state with one bar record changed. -/
def State.onBar (s : State) (slot : Nat) (f : Bar → Bar) : State := { s with bars := s.bars.modify slot f }

/-! ### Reading the tables -/

/-- The slots 0 to 63, rising: slot order. -/
abbrev slots : List Nat := List.range Config.slotCount

/-- The profile numbers 0 to 7. -/
abbrev profileNumbers : List Nat := List.range Config.profileCount

/-- The record of a slot; a slot that names no record reads as an unfitted one. -/
def State.bar (s : State) (slot : Nat) : Bar := s.bars.getD slot coldBar

/-- The record of a profile number. -/
def State.profile (s : State) (n : Nat) : Profile := s.profiles.getD n coldProfile

/-- The change set of a number. -/
def State.changeSet (s : State) (n : Nat) : ChangeSet := s.changes.sets.getD n .free

/-- The region tracker of a profile. -/
def State.tracker (s : State) (n : Nat) : Tracker := s.moves.trackers.getD n { region := .pre, heading := .forward }

/-- The next tag of a slot (chapter 8). -/
def State.nextTag (s : State) (slot : Nat) : Nat := s.moves.nextTags.getD slot 0

/-- Whether a slot of a request is fitted (R17, check 1). -/
def State.fittedSlot (s : State) (slot : Nat) : Bool := (s.bar slot).state.isFitted

/-- The bound-side slot that holds a drive address (R22), absent where none does. -/
def State.slotOfAddress (s : State) (address : Nat) : Option Nat :=
  s.bars.findIdx? (fun b => b.state.isBoundSide && b.address == address)

/-! ### Alerts (R167) -/

/-- The number of an alert kind (R166). -/
def AlertKind.number : AlertKind → Nat
  | .emergency => 0
  | .blockedEntry => 1
  | .overspeed => 2
  | .late => 3
  | .position => 4
  | .driveFault => 5
  | .linkLost => 6
  | .starved => 7
  | .travel => 8
  | .shogLimit => 9
  | .reverseFloor => 10
  | .shaftSlip => 11
  | .driveSilent => 12
  | .pieceEnd => 13
  | .barReady => 14
  | .setApplied => 15

/-- What a raise does to the record of its kind (R167). -/
def AlertRecord.raised (r : AlertRecord) (slot course : Option Nat) : AlertRecord :=
  if r.pending then { r with count := min 255 (r.count + 1) } else { pending := true, count := 1, slot, course }

/-- A raise: the record of the kind takes it, then both lines are recomputed (R167). -/
def State.raiseAlert (s : State) (kind : AlertKind) (slot course : Option Nat) : State :=
  s.onAlerts fun u => { u with records := u.records.modify kind.number (·.raised slot course) }.recompute

/-- A raise that carries a slot and the course C. -/
def State.raiseBar (s : State) (kind : AlertKind) (slot : Nat) : State := s.raiseAlert kind (some slot) (some s.shaft.c)

/-- A raise that carries the course C and no slot. -/
def State.raisePart (s : State) (kind : AlertKind) : State := s.raiseAlert kind none (some s.shaft.c)

/-! ### The speed line (R126, R127) -/

/-- A send is wanted: it begins at once, or is marked pending while a message is being sent (R127). -/
def State.wantSend (s : State) : State :=
  s.onSpeedLine fun l =>
    match l.sending with
    | none => { sending := some (speedMessage s.plan.p), again := false }
    | some _ => { l with again := true }

/-- The end of every step that may change an input of P: P is recomputed (R126), and a send is wanted when it changed or
when the step itself wants one (R127). DEDUCED, log 5: a step is whole, so P is recomputed once, when every block has acted. -/
def State.settle (s : State) (sendWanted : Bool) : State :=
  let t := s.onPlan fun p => { p with p := s.permittedSpeed }
  if sendWanted || decide (s.permittedSpeed ≠ s.plan.p) then t.wantSend else t

/-! ### Sending on the ring (R152) -/

/-- A frame goes out on the ring: the next sequence is written into it, it joins the transit list, and the idle timer
restarts while the ring is UP (R152, R154). -/
def State.transmit (s : State) (frame : Byte → List Byte) : State :=
  s.onRing fun r =>
    { r with
      transit := r.transit ++ [{ seq := r.nextSeq, bytes := withCheck (frame r.nextSeq), sentAt := s.now }]
      nextSeq := r.nextSeq + 1
      idle := if r.state = .up then 0 else r.idle
      out := withCheck (frame r.nextSeq) }

/-- The next marker of a training is sent (R151). -/
def State.sendMarker (s : State) : State := s.transmit markerBytes

/-! ### The send queue (R153) -/

/-- Whether a queued frame is a MOVE for an address. -/
def QueuedFrame.isMoveFor (address : Nat) : QueuedFrame → Bool
  | .move a _ _ _ => a == address
  | .marker | .bind _ _ | .unbind _ => false

/-- Whether a queued frame is a control frame, BIND or UNBIND, for an address. -/
def QueuedFrame.isControlFor (address : Nat) : QueuedFrame → Bool
  | .bind a _ => a == address
  | .unbind a => a == address
  | .marker | .move _ _ _ _ => false

/-- Whether a queued frame is a BIND of a slot. -/
def QueuedFrame.isBindOf (slot : Nat) : QueuedFrame → Bool
  | .bind _ b => b == slot
  | .marker | .unbind _ | .move _ _ _ _ => false

/-- Whether a queued frame is a MARKER. -/
def QueuedFrame.isMarker : QueuedFrame → Bool
  | .marker => true
  | .bind _ _ | .unbind _ | .move _ _ _ _ => false

/-- Whether a queued frame is an UNBIND. -/
def QueuedFrame.isUnbind : QueuedFrame → Bool
  | .unbind _ => true
  | .marker | .bind _ _ | .move _ _ _ _ => false

/-- A frame takes the place of the queued one it replaces, or joins the tail (R153). -/
def placeFrame (replaces : QueuedFrame → Bool) (frame : QueuedFrame) (queue : List QueuedFrame) : List QueuedFrame :=
  if queue.any replaces then queue.map (fun q => if replaces q then frame else q) else queue ++ [frame]

/-- A MOVE is handed to the send queue (R153). -/
def State.handMove (s : State) (address tag : Nat) (counts : Int) (budget : Nat) : State :=
  s.onRing fun r =>
    { r with queue := placeFrame (QueuedFrame.isMoveFor address) (.move address tag counts budget) r.queue }

/-- A BIND is handed to the send queue (R153). -/
def State.handBind (s : State) (address slot : Nat) : State :=
  s.onRing fun r => { r with queue := placeFrame (QueuedFrame.isControlFor address) (.bind address slot) r.queue }

/-- An UNBIND is handed to the send queue; any queued MOVE for the address is removed (R153). -/
def State.handUnbind (s : State) (address : Nat) : State :=
  s.onRing fun r =>
    { r with
      queue := placeFrame (QueuedFrame.isControlFor address) (.unbind address)
        (r.queue.filter (fun q => !q.isMoveFor address)) }

/-! ### Bars and their binding attempts (R19, R157, R158) -/

/-- A bar's outstanding move is discarded, with any queued MOVE for its address (R153). -/
def State.discardMove (s : State) (slot : Nat) : State :=
  (s.onBar slot fun b => { b with move := none }).onRing fun r =>
    { r with queue := r.queue.filter (fun q => !q.isMoveFor (s.bar slot).address) }

/-- A binding attempt is started for a bar, or started afresh (R157): its BIND is handed at once while the ring is UP. -/
def State.startAttempt (s : State) (slot : Nat) : State :=
  let t := s.onRing fun r =>
    { r with attempts := r.attempts.put slot { count := 0, timer := none, silentRaised := false } }
  if s.ring.state = .up then t.handBind (s.bar slot).address slot else t

/-- A bar's binding attempt ends: any BIND for the bar still queued is removed (R158). -/
def State.endAttempt (s : State) (slot : Nat) : State :=
  s.onRing fun r =>
    { r with
      attempts := r.attempts.del slot
      queue := r.queue.filter (fun q => !q.isBindOf slot) }

/-- A bar's state becomes `next` (R19): entering BINDING or REBINDING from outside starts a binding attempt, leaving both
ends it, and a move between them keeps it. A state that stays as it was hands on nothing. -/
def State.setBarState (s : State) (slot : Nat) (next : BarState) : State :=
  let before := (s.bar slot).state
  let t := s.onBar slot fun b => { b with state := next }
  if next.isBinding && !before.isBinding then t.startAttempt slot
  else if before.isBinding && !next.isBinding then t.endAttempt slot
  else t

/-- An ENGAGED bar becomes FAULTED; a bar in another state keeps it (R32). -/
def State.faultBar (s : State) (slot : Nat) : State :=
  if (s.bar slot).state = .engaged then s.setBarState slot .faulted else s

/-! ### The clock (log 2) -/

/-- Time passes: the clock and every running timer go on, each timer holding at its limit (R8, R154, R157). -/
def State.passTime (s : State) (micros : Nat) : State :=
  let t := s.onShaft fun h => { h with stall := min 500000 (h.stall + micros) }
  let t := t.onRing fun r =>
    { r with
      idle := if r.state = .up then min 10000 (r.idle + micros) else r.idle
      attempts := r.attempts.mapValues fun _ a => { a with timer := a.timer.map fun n => min 100000 (n + micros) } }
  { t with now := s.now + micros }

end Sys2Proof.Machine
end

