-- ==== Sys2Proof/Machine/Store.lean ====
section
/-! DEFINITION. The Pattern Store: pages, the steps of a program, the seal, and the reference counts (chapter 3). -/

namespace Sys2Proof.Machine

/-! ### Pages (R39) -/

/-- The number of pages a program of a length holds (R39). -/
def pagesFor (length : Nat) : Nat := (length + 255) / 256

/-- The address of step i of a program: its page stands at place floor(i ÷ 256) of the page list (R39). -/
def Program.address (p : Program) (i : Nat) : Option Nat := (p.pages[i / 256]?).map (fun page => page * 256 + i % 256)

/-- Step i of a program as stored. -/
def PatternStore.readStep (st : PatternStore) (p : Program) (i : Nat) : Option Step :=
  (p.address i).bind (fun a => st.memory.find a)

/-- Step i of a program is stored. -/
def PatternStore.writeStep (st : PatternStore) (p : Program) (i : Nat) (v : Step) : PatternStore :=
  match p.address i with
  | some a => { st with memory := st.memory.put a v }
  | none => st

/-- Steps are stored at consecutive indices from i. -/
def PatternStore.writeSteps (st : PatternStore) (p : Program) (i : Nat) : List Step → PatternStore
  | [] => st
  | v :: rest => (st.writeStep p i v).writeSteps p (i + 1) rest

/-- The written steps of a program in index order (R56). -/
def PatternStore.stepsOf (st : PatternStore) (p : Program) : List Step :=
  (List.range p.written).filterMap (st.readStep p)

/-- A set of page numbers with one more in it, kept rising. -/
def insertPage (page : Nat) : List Nat → List Nat
  | [] => [page]
  | g :: rest => if page < g then page :: g :: rest else if page = g then g :: rest else g :: insertPage page rest

/-! ### Steps served to cursors (R56) -/

/-- The steps of a program number, in index order; none where the number is free. -/
def State.programSteps (s : State) (n : Nat) : List Step :=
  match s.store.programs.find n with
  | some p => s.store.stepsOf p
  | none => []

/-- What a SEALED program of a number holds beside every entry's fields; absent where it is not SEALED. -/
def State.sealOf (s : State) (n : Nat) : Option SealInfo := (s.store.programs.find n).bind (·.sealInfo)

/-- The course length of a SEALED program; 0 where there is none (log 10). -/
def State.courseLength (s : State) (n : Nat) : Nat := ((s.sealOf n).map (·.courseLength)).getD 0

/-! ### The seal (R47 to R50) -/

/-- The causes of a failed structure scan, in the order of R47. -/
inductive ScanFault where
  | tooDeep
  | unmatchedClose
  | emptyLoop
  | unclosedOpen
  | noCourse
  deriving DecidableEq, Repr

/-- What the structure scan carries from step to step (R47): the open loops, newest first, each with the index of its OPEN and
its mark; whether a COURSE has been read; the greatest number of loops open at once; and the pairs (OPEN, CLOSE) found. -/
structure Scan where
  loops : List (Nat × Bool)
  anyCourse : Bool
  depth : Nat
  pairs : List (Nat × Nat)
  deriving DecidableEq, Repr

/-- The scan before the first step (R47). -/
def scanStart : Scan := { loops := [], anyCourse := false, depth := 0, pairs := [] }

/-- The scan acts at one step (R47). -/
def scanStep (c : Scan) (i : Nat) (step : Step) : Except (ScanFault × Nat) Scan :=
  match step with
  | .course _ _ => .ok { c with loops := c.loops.map (fun l => (l.1, true)), anyCourse := true }
  | .loopOpen _ _ =>
    if c.loops.length < 4 then
      .ok { c with loops := (i, false) :: c.loops, depth := max c.depth (c.loops.length + 1) }
    else .error (.tooDeep, i)
  | .loopClose _ =>
    match c.loops with
    | [] => .error (.unmatchedClose, i)
    | (_, false) :: _ => .error (.emptyLoop, i)
    | (o, true) :: rest => .ok { c with loops := rest, pairs := (o, i) :: c.pairs }

/-- The structure scan from index i on, with its two checks at the end (R47). -/
def scanFrom (c : Scan) (i : Nat) : List Step → Except (ScanFault × Nat) Scan
  | [] =>
    match c.loops.getLast? with
    | some (o, _) => .error (.unclosedOpen, o)
    | none => if c.anyCourse then .ok c else .error (.noCourse, 0)
  | step :: rest =>
    match scanStep c i step with
    | .error e => .error e
    | .ok c' => scanFrom c' (i + 1) rest

/-- The structure scan of a program (R47). -/
def structureScan (steps : List Step) : Except (ScanFault × Nat) Scan := scanFrom scanStart 0 steps

/-- The courses of a run of steps with every loop unfolded (R49): `acc` counts the courses of the body being read, and
`outer` holds, innermost first, the count of each open loop with the courses counted before it. -/
def unfold (acc : Nat) (outer : List (Nat × Nat)) : List Step → Nat
  | [] => acc
  | .course _ _ :: rest => unfold (acc + 1) outer rest
  | .loopOpen n _ :: rest => unfold 0 ((n, acc) :: outer) rest
  | .loopClose _ :: rest =>
    match outer with
    | [] => unfold acc [] rest
    | (n, before) :: outer' => unfold (before + n * acc) outer' rest

/-- The courses of a run of steps (R49). -/
def coursesOf (steps : List Step) : Nat := unfold 0 [] steps

/-- A step with its partner filled in from the pairs of the scan (R48). -/
def fillPartner (pairs : List (Nat × Nat)) (i : Nat) : Step → Step
  | .course a b => .course a b
  | .loopOpen n p => .loopOpen n (((pairs.find? (fun q => q.1 == i)).map (·.2)).getD p)
  | .loopClose p => .loopClose (((pairs.find? (fun q => q.2 == i)).map (·.1)).getD p)

/-- The steps of a program with their partners filled in (R48). -/
def fillPartners (pairs : List (Nat × Nat)) (steps : List Step) : List Step :=
  steps.mapIdx (fillPartner pairs)

/-- How a seal ends (R47, R49, R50). -/
inductive SealEnd where
  | structureFault (cause : ScanFault) (index : Nat)
  | tooLong
  | success (steps : List Step) (courseLength depth : Nat)
  deriving DecidableEq, Repr

/-- The seal of a program's steps (R47 to R50). The course length is at least that of every loop and body on the way to it,
so it alone is compared (R49). -/
def sealSteps (steps : List Step) : SealEnd :=
  match structureScan steps with
  | .error (cause, i) => .structureFault cause i
  | .ok c =>
    if coursesOf steps ≤ Config.courseMax then .success (fillPartners c.pairs steps) (coursesOf steps) c.depth
    else .tooLong

/-! ### Reference counts (R55) -/

/-- A SEALED program's reference count is changed; a number that is not SEALED has none. -/
def State.onRefs (s : State) (n : Nat) (f : Nat → Nat) : State :=
  s.onStore fun st =>
    { st with
      programs := st.programs.modify n fun p => { p with sealInfo := p.sealInfo.map fun i => { i with refs := f i.refs } } }

/-- A program gains one reference. -/
def State.gainRef (s : State) (n : Nat) : State := s.onRefs n (· + 1)

/-- A program loses one reference. -/
def State.dropRef (s : State) (n : Nat) : State := s.onRefs n (· - 1)

/-- The number of bar records whose assignment is LEAD of a program (R58). -/
def State.leadsOf (s : State) (n : Nat) : Nat := s.bars.countP (fun b => decide (b.assignment = .lead n))

/-- Every reference count is recomputed from the LEAD assignments of the bar records (R58). -/
def State.recountRefs (s : State) : State :=
  s.onStore fun st =>
    { st with
      programs := st.programs.mapValues fun n p => { p with sealInfo := p.sealInfo.map fun i => { i with refs := s.leadsOf n } } }

end Sys2Proof.Machine
end

