-- ==== Sys2Proof/Machine/Cursors.lean ====
section
/-! DEFINITION. Cursors: forward and reverse stepping, placement, and the follower transform (chapter 4). The functions act on
the steps of a SEALED program as the Pattern Store serves them. -/

namespace Sys2Proof.Machine

/-- The stack with its top frame's iteration changed (R62, R63). The stack is oldest first. -/
def changeTop (f : Nat → Nat) (stack : List LoopFrame) : List LoopFrame :=
  match stack.getLast? with
  | some top => stack.dropLast ++ [{ top with iteration := f top.iteration }]
  | none => stack

/-- The forward scan from index i with a stack (R62): the index and stack it stops with. `fuel` bounds the steps met; a scan
of a SEALED program ends within `scanFuel` of them (R60). -/
def scanForward (steps : List Step) : Nat → Nat → List LoopFrame → Option (Nat × List LoopFrame)
  | 0, _, _ => none
  | fuel + 1, i, stack =>
    match steps[i]? with
    | none => if steps = [] then none else scanForward steps fuel 0 []
    | some (.course _ _) => some (i, stack)
    | some (.loopOpen n _) => scanForward steps fuel (i + 1) (stack ++ [{ openIndex := i, iteration := 1, count := n }])
    | some (.loopClose _) =>
      match stack.getLast? with
      | none => none
      | some top =>
        if top.iteration < top.count then scanForward steps fuel (top.openIndex + 1) (changeTop (· + 1) stack)
        else scanForward steps fuel (i + 1) stack.dropLast

/-- The reverse scan (R63). `i` is one more than the index to be read, so 0 says that the index has passed below step 0. -/
def scanReverse (steps : List Step) : Nat → Nat → List LoopFrame → Option (Nat × List LoopFrame)
  | 0, _, _ => none
  | fuel + 1, 0, _ => if steps = [] then none else scanReverse steps fuel steps.length []
  | fuel + 1, i + 1, stack =>
    match steps[i]? with
    | none => none
    | some (.course _ _) => some (i, stack)
    | some (.loopClose partner) =>
      match steps[partner]? with
      | some (.loopOpen n _) =>
        scanReverse steps fuel i (stack ++ [{ openIndex := partner, iteration := n, count := n }])
      | _ => none
    | some (.loopOpen _ partner) =>
      match stack.getLast? with
      | none => none
      | some top =>
        if 1 < top.iteration then scanReverse steps fuel partner (changeTop (· - 1) stack)
        else scanReverse steps fuel i stack.dropLast

/-- A bound on the steps one scan meets: each marker at most twice, one wrap and one COURSE (R60). -/
def scanFuel (steps : List Step) : Nat := 2 * steps.length + 2

/-- The start position of a program (R61): step index and loop stack. -/
def startPosition (steps : List Step) : Option (Nat × List LoopFrame) := scanForward steps (scanFuel steps) 0 []

/-- A forward step of a cursor (R62), in a program of a course length. -/
def Cursor.forward (c : Cursor) (steps : List Step) (courseLength : Nat) : Cursor :=
  match scanForward steps (scanFuel steps) (c.index + 1) c.stack with
  | some (i, stack) => { c with index := i, stack, course := if c.course + 1 = courseLength then 0 else c.course + 1 }
  | none => c

/-- A reverse step of a cursor (R63), in a program of a course length. -/
def Cursor.reverse (c : Cursor) (steps : List Step) (courseLength : Nat) : Cursor :=
  match scanReverse steps (scanFuel steps) c.index c.stack with
  | some (i, stack) => { c with index := i, stack, course := if c.course = 0 then courseLength - 1 else c.course - 1 }
  | none => c

/-- The steps strictly between two indices: the body of a loop. -/
def bodyOf (steps : List Step) (openIndex closeIndex : Nat) : List Step :=
  (steps.take closeIndex).drop (openIndex + 1)

/-- The descent of a placement from index i with k courses still to be passed (R65). -/
def descend (steps : List Step) : Nat → Nat → Nat → List LoopFrame → Option (Nat × List LoopFrame)
  | 0, _, _, _ => none
  | fuel + 1, i, k, stack =>
    match steps[i]? with
    | some (.course _ _) => if k = 0 then some (i, stack) else descend steps fuel (i + 1) (k - 1) stack
    | some (.loopOpen n partner) =>
      let b := coursesOf (bodyOf steps i partner)
      if n * b ≤ k then descend steps fuel (partner + 1) (k - n * b) stack
      else descend steps fuel (i + 1) (k - b * (k / b)) (stack ++ [{ openIndex := i, iteration := k / b + 1, count := n }])
    | some (.loopClose _) => none
    | none => none

/-- Placement at entry course k of a program (R65). -/
def placeCursor (steps : List Step) (program k : Nat) : Option Cursor :=
  (descend steps (steps.length + 1) 0 k []).map fun d => { program, index := d.1, course := k, stack := d.2 }

/-- The pair of a cursor: the (a, b) of the COURSE step at its step index (R59). -/
def Cursor.pair (c : Cursor) (steps : List Step) : Option (Int × Int) :=
  match steps[c.index]? with
  | some (.course a b) => some (a, b)
  | _ => none

/-- The follower transform of a position (R67). -/
def followPosition (offset : Int) (mirror : Bool) (x : Int) : Int := if mirror then offset - x else x + offset

/-- The follower transform of a pair (R67). -/
def followPair (offset : Int) (mirror : Bool) (ab : Int × Int) : Int × Int :=
  (followPosition offset mirror ab.1, followPosition offset mirror ab.2)

/-! ### Cursors of the part -/

/-- A forward step of a cursor the part holds (R60, R62). -/
def State.stepForward (s : State) (c : Cursor) : Cursor :=
  c.forward (s.programSteps c.program) (s.courseLength c.program)

/-- A reverse step of a cursor the part holds (R60, R63). -/
def State.stepReverse (s : State) (c : Cursor) : Cursor :=
  c.reverse (s.programSteps c.program) (s.courseLength c.program)

/-- The cursor placed at an entry course of a program (R65). -/
def State.place (s : State) (program entry : Nat) : Option Cursor := placeCursor (s.programSteps program) program entry

/-- The pair of a bar in a layout (R66, R75): its cursor's pair for a LEAD, the transform of its lead's pair for a FOLLOW. -/
def State.pairIn (s : State) (l : Layout) (slot : Nat) : Option (Int × Int) :=
  let leadPair (n : Nat) := (l.cursors.find n).bind fun c => c.pair (s.programSteps c.program)
  match (l.config.getD slot coldConfig).assignment with
  | .none => none
  | .lead _ => leadPair slot
  | .follow lead offset mirror =>
    match (l.config.getD lead coldConfig).assignment with
    | .lead _ => (leadPair lead).map (followPair offset mirror)
    | .none | .follow _ _ _ => none

end Sys2Proof.Machine
end

