-- ==== Sys2Proof/Machine/Moves.lean ====
section
/-! DEFINITION. The Move Unit: regions, commandable bars, targets, MOVE commands, the leaving check, the held record and the
sweep of a course entry (chapter 8). -/

namespace Sys2Proof.Machine

/-- The two windows of a profile (R97). -/
inductive Window where
  | overlap
  | underlap
  deriving DecidableEq, Repr

/-- The region of an angle under a profile's windows (R133). -/
def Profile.regionAt (p : Profile) (angle : Nat) : Region :=
  if angle < p.os then .pre
  else if angle < p.oe then .overlap
  else if angle < p.us then .between
  else if angle < p.ue then .underlap
  else .post

/-- The window a region is, absent for PRE, BETWEEN and POST (R133). -/
def Region.window : Region → Option Window
  | .overlap => some .overlap
  | .underlap => some .underlap
  | .pre | .between | .post => none

/-- The side whose position a region holds, absent for a window (R133). -/
def Region.side : Region → Option Side
  | .pre => some .pre
  | .between => some .between
  | .post => some .post
  | .overlap | .underlap => none

/-- The side a move commanded in a window goes to (R133): the far side going forward, the near side going back. -/
def sideOf : Window → Dir → Side
  | .overlap, .forward => .between
  | .overlap, .reverse => .pre
  | .underlap, .forward => .post
  | .underlap, .reverse => .between

/-- The window's edge on the far side (R138): oe or ue. -/
def Profile.windowEnd (p : Profile) : Window → Nat
  | .overlap => p.oe
  | .underlap => p.ue

/-- The side position of an entry (R137); a LEADIN entry has one on the POST side only. -/
def Entry.sidePosition (e : Entry) : Side → Option Int
  | .pre => e.pair.map (·.1)
  | .between => e.pair.map (·.2)
  | .post => some e.u

/-- The entry of a slot in a course record. -/
def CourseRecord.entryOf (r : CourseRecord) (slot : Nat) : Option Entry := r.entries.find? (fun e => e.slot == slot)

/-- Whether a course record is blocked (R111). -/
def CourseRecord.blocked (r : CourseRecord) : Bool := r.cause != .none

/-! ### Targets (R135, R137) -/

/-- The entry that makes a bar commandable for a window and a heading (R135), absent where it is not commandable. -/
def State.commandable (s : State) (slot : Nat) (w : Window) (heading : Dir) : Option Entry :=
  match s.moves.held.entryOf slot with
  | none => none
  | some e =>
    match (s.bar slot).state, e.role with
    | .engaged, .lead => some e
    | .engaged, .follow => some e
    | .idle, .leadin => if w = .underlap ∧ heading = .forward then some e else none
    | _, _ => none

/-- A position taken as the nearer of two limits where it lies outside them (R137). -/
def clampLimits (low high x : Int) : Int := if x < low then low else if high < x then high else x

/-- The start point of a bar as it stands (R137): the target of its outstanding move, or its position where it has none. -/
def Bar.startPoint (b : Bar) : Int := (b.move.map (·.target)).getD b.position

/-- The three clamping steps of R137 for a bar of a profile, from a start point. -/
def clampTarget (b : Bar) (p : Profile) (start x : Int) : Int :=
  let y := clampLimits b.low b.high x
  let z := if start + p.shogMax < y then start + p.shogMax else if y < start - p.shogMax then start - p.shogMax else y
  clampLimits b.low b.high z

/-- The target of a bar for a side, from its entry in the held record and a start point (R137). -/
def State.targetFrom (s : State) (slot : Nat) (e : Entry) (side : Side) (start : Int) : Option Int :=
  (e.sidePosition side).map fun x =>
    if s.moves.held.blocked then clampTarget (s.bar slot) (s.profile (s.bar slot).profile) start x else x

/-- The target of a bar commanded as it stands (R137). -/
def State.targetOf (s : State) (slot : Nat) (e : Entry) (side : Side) : Option Int :=
  s.targetFrom slot e side (s.bar slot).startPoint

/-- The start point of a bar's last command in a window, or the one as it stands where there was none: what the leaving check
reckons its target from, so that a bar come to the target it was commanded to passes (R144, R146; DEDUCED, log 37). -/
def State.keptStart (s : State) (slot : Nat) : Int := (s.moves.starts.getD slot none).getD (s.bar slot).startPoint

/-- The target that stands for a bar in a window it was commanded for (R137, R144). -/
def State.standingTarget (s : State) (slot : Nat) (e : Entry) (side : Side) : Option Int :=
  s.targetFrom slot e side (s.keptStart slot)

/-! ### MOVE commands (R138 to R141) -/

/-- A MOVE goes out for a bar: the frame is handed to the ring, the bar's outstanding move is replaced, and the next tag
rises, from 15 to 0 (R138). -/
def State.sendMove (s : State) (slot : Nat) (target : Int) (side : Side) (kind : MoveKind) (budget : Nat) : State :=
  let b := s.bar slot
  let tag := s.nextTag slot
  let counts := targetCounts s.gauge b.trim target
  let t := s.onBar slot fun b => { b with move := some { tag, target, counts, side, kind } }
  let t := t.onMoves fun m => { m with nextTags := m.nextTags.set slot ((tag + 1) % 16) }
  t.handMove b.address tag counts budget

/-- Whether a bar needs a move to a target (R138): not where it stands there with no outstanding move, and not where its
outstanding move already has this target, which then stands with its side and kind (DEDUCED, log 31). -/
def Bar.needsMove (b : Bar) (target : Int) : Bool :=
  match b.move with
  | none => b.position != target
  | some m => m.target != target

/-- The budget of a move commanded in a window at an angle (R138): 0, unbounded, unless the shaft is FORWARD with a valid
period. -/
def State.budget (s : State) (p : Profile) (w : Window) (angle : Nat) : Nat :=
  match s.shaft.state, s.shaft.period with
  | .forward, some period => (p.windowEnd w - angle) * period / 1024
  | _, _ => 0

/-- The kind of a move the Move Unit commands in a window (R138): LEADIN for an IDLE bar, PATTERN for an ENGAGED one. -/
def commandKind (b : Bar) : MoveKind := if b.state = .idle then .leadin else .pattern

/-- The start point of a bar's command is kept for the leaving check (log 37). -/
def State.keepStart (s : State) (slot : Nat) : State :=
  s.onMoves fun m => { m with starts := m.starts.set slot (some (s.bar slot).startPoint) }

/-- A bar is commanded as at the entry of a window (R138), where it is commandable: its start point is kept, and a MOVE is sent
where it needs one. -/
def State.commandBar (s : State) (w : Window) (heading : Dir) (angle slot : Nat) : State :=
  match s.commandable slot w heading with
  | none => s
  | some e =>
    match s.targetOf slot e (sideOf w heading) with
    | none => s
    | some target =>
      if (s.bar slot).needsMove target then
        (s.keepStart slot).sendMove slot target (sideOf w heading) (commandKind (s.bar slot))
          (s.budget (s.profile (s.bar slot).profile) w angle)
      else s.keepStart slot

/-- Whether a slot's record names a profile. -/
def State.namesProfile (s : State) (slot profile : Nat) : Bool := (s.bar slot).profile == profile

/-- Each commandable bar of a profile is commanded for a window, in slot order, unless a hold stands (R138, R143). -/
def State.commandWindow (s : State) (profile : Nat) (w : Window) (heading : Dir) (angle : Nat) : State :=
  if s.moves.heldHold = 0 then
    slots.foldl (fun t slot => if t.namesProfile slot profile then t.commandBar w heading angle slot else t) s
  else s

/-- A bar that has become commandable is commanded at once where the tracker of its profile stands in a window and no hold
stands (R141); the occasions are those of its general sentence (DEDUCED, log 9). -/
def State.commandAtOnce (s : State) (slot : Nat) : State :=
  let t := s.tracker (s.bar slot).profile
  match t.region.window with
  | some w => if s.moves.heldHold = 0 then s.commandBar w t.heading s.shaft.angle slot else s
  | none => s

/-! ### The leaving check (R144) -/

/-- What a failed leaving check does (R144, R32, R30): LATE is raised; an ENGAGED bar becomes FAULTED, and the lead-in late
flag of an IDLE one is set. -/
def State.failCheck (s : State) (slot : Nat) : State :=
  let t := s.raiseBar .late slot
  if (s.bar slot).state = .idle then t.onBar slot fun b => { b with leadInLate := true } else t.faultBar slot

/-- Whether a bar fails the leaving check against its expected position (R144). A LEADIN bar whose DONE came out of tolerance at
counts that convert to that position passes (DEDUCED, log 38). -/
def Bar.failsCheck (b : Bar) (expected : Int) : Bool := b.move.isSome || b.position != expected

/-- The leaving check of one bar (R144), against the target that stands for it (R146). -/
def State.checkBar (s : State) (w : Window) (heading : Dir) (slot : Nat) : State :=
  match s.commandable slot w heading with
  | none => s
  | some e =>
    match s.standingTarget slot e (sideOf w heading) with
    | none => s
    | some expected => if (s.bar slot).failsCheck expected then s.failCheck slot else s

/-- Leaving a window checks each commandable bar of the profile in slot order, unless a hold stands (R144, R143). -/
def State.leaveWindow (s : State) (profile : Nat) (w : Window) (heading : Dir) : State :=
  if s.moves.heldHold = 0 then
    slots.foldl (fun t slot => if t.namesProfile slot profile then t.checkBar w heading slot else t) s
  else s

/-! ### Trackers (R134, R140, R142) -/

/-- A tracker is changed. -/
def State.onTracker (s : State) (profile : Nat) (f : Tracker → Tracker) : State :=
  s.onMoves fun m => { m with trackers := m.trackers.modify profile f }

/-- A tracker moves to the region of an angle: it leaves the window it stood in, then enters the window it comes to (R134). -/
def State.trackTo (s : State) (angle profile : Nat) : State :=
  let t := s.tracker profile
  let next := (s.profile profile).regionAt angle
  if t.region = next then s
  else
    let s1 := match t.region.window with
      | some w => s.leaveWindow profile w t.heading
      | none => s
    let s2 := s1.onTracker profile fun t => { t with region := next }
    match next.window with
    | some w => s2.commandWindow profile w t.heading angle
    | none => s2

/-- Every tracker moves to the region of an angle, in profile order (R134; the order of profiles is a DESIGN CHOICE, log 6). -/
def State.moveAngle (s : State) (angle : Nat) : State := profileNumbers.foldl (fun t n => t.trackTo angle n) s

/-- The heading of a tracker becomes a direction; where that changes it in a window, the window's bars are commanded to the
target of the new heading (R134, R140). -/
def State.turnTracker (s : State) (d : Dir) (profile : Nat) : State :=
  let t := s.tracker profile
  if t.heading = d then s
  else
    let s1 := s.onTracker profile fun t => { t with heading := d }
    match t.region.window with
    | some w => s1.commandWindow profile w d s.shaft.angle
    | none => s1

/-- The heading of every tracker becomes a direction (R134, R140). -/
def State.turnHeading (s : State) (d : Dir) : State := profileNumbers.foldl (fun t n => t.turnTracker d n) s

/-- The angles a sweep passes through, one unit at a time: from the one after `angle` to 1023 for a forward entry, from the
one before it to 0 for a reverse entry (R142). -/
def sweepAngles (d : Dir) (angle : Nat) : List Nat :=
  match d with
  | .forward => List.range' (angle + 1) (1023 - angle)
  | .reverse => (List.range angle).reverse

/-- The sweep of a course entry from the angle before to the end of the range on the side of the step (R142). -/
def State.sweep (s : State) (d : Dir) (angleBefore : Nat) : State := (sweepAngles d angleBefore).foldl State.moveAngle s

/-- Every tracker is placed in the region of the present angle, with no crossing (R101, R142, R149). -/
def State.placeTrackers (s : State) : State :=
  profileNumbers.foldl
    (fun t n => t.onTracker n fun k => { k with region := (s.profile n).regionAt s.shaft.angle }) s

/-! ### The held record (R136) -/

/-- Whether the target that stands for a bar under the new held record differs from the one it had, or it had none (R141). -/
def State.targetChanged (s before : State) (w : Window) (heading : Dir) (slot : Nat) : Bool :=
  let side := sideOf w heading
  let now := (s.commandable slot w heading).bind fun e => s.standingTarget slot e side
  let old := (before.commandable slot w heading).bind fun e => before.standingTarget slot e side
  decide (now ≠ old)

/-- After a record of the same course replaced the held one, each bar whose target changed is commanded where the tracker of
its profile stands in a window (R136, R141). -/
def State.commandChanged (s before : State) (slot : Nat) : State :=
  let t := s.tracker (s.bar slot).profile
  match t.region.window with
  | some w =>
    if s.moves.heldHold = 0 && s.targetChanged before w t.heading slot then s.commandBar w t.heading s.shaft.angle slot
    else s
  | none => s

/-- A current record is handed to the Move Unit (R136): it replaces the held record at once where it is of the same course,
and is kept as the next record otherwise. -/
def State.handRecord (s : State) (r : CourseRecord) : State :=
  if r.course = s.moves.held.course then
    slots.foldl (fun t slot => t.commandChanged s slot) (s.onMoves fun m => { m with held := r })
  else s.onMoves fun m => { m with nextRecord := some r }

/-- The next record, where one is kept, becomes the held record (R136). -/
def State.adoptNext (s : State) : State :=
  s.onMoves fun m =>
    match m.nextRecord with
    | some r => { m with held := r, nextRecord := none }
    | none => m

end Sys2Proof.Machine
end

