-- ==== Sys2Proof/Machine/Planner.lean ====
section
/-! DEFINITION. The Course Planner: layouts and advances, course records, planning, starved entries and replans (chapter 7). -/

namespace Sys2Proof.Machine

/-! ### Layouts (R113, R114) -/

/-- The edits of the committed sets whose effective course is `e`, in commit order. -/
def State.editsAt (s : State) (e : Nat) : List (KMap Edit) :=
  s.changes.commitList.filterMap fun n =>
    match s.changeSet n with
    | .committed edits e' => if e' = e then some edits else none
    | .free | .opened _ => none

/-- The assignment an edit makes (R31, R80). -/
def EditAssignment.made : EditAssignment → Assignment
  | .lead program _ => .lead program
  | .follow leader offset mirror => .follow leader offset mirror
  | .withdrawn => .none

/-- A slot's configuration with an edit laid over it (R113). -/
def BarConfig.laid (c : BarConfig) (e : Edit) : BarConfig :=
  match e.limits with
  | some (low, high) => { assignment := e.assignment.made, low, high }
  | none => { c with assignment := e.assignment.made }

/-- A layout with one edit laid over it (R113): a LEAD edit places the slot's cursor, any other lets it go. -/
def State.layEdit (s : State) (l : Layout) (slot : Nat) (e : Edit) : Layout :=
  { config := l.config.modify slot (·.laid e)
    cursors :=
      match e.assignment with
      | .lead program entry =>
        match s.place program entry with
        | some c => l.cursors.put slot c
        | none => l.cursors.del slot
      | .follow _ _ _ => l.cursors.del slot
      | .withdrawn => l.cursors.del slot }

/-- A layout with the edits of one set laid over it in slot order. -/
def State.laySet (s : State) (l : Layout) (edits : KMap Edit) : Layout :=
  edits.cells.foldl (fun l ke => s.layEdit l ke.1 ke.2) l

/-- An advance of a layout from course k to k + 1 (R113): the sets of E = k + 1 are laid over it, then every cursor that no
edit placed or let go takes one forward step. -/
def State.advance (s : State) (k : Nat) (l : Layout) : Layout :=
  let sets := s.editsAt (k + 1)
  let laid := sets.foldl s.laySet l
  { laid with
    cursors := laid.cursors.mapValues fun slot c => if sets.any (fun e => e.has slot) then c else s.stepForward c }

/-- The layout of the bar records: their assignments, limits and knit cursors (R114, R123). -/
def State.knitLayout (s : State) : Layout :=
  { config := s.bars.map fun b => { assignment := b.assignment, low := b.low, high := b.high }
    cursors := ⟨slots.filterMap fun slot => (s.bar slot).cursor.map fun c => (slot, c)⟩ }

/-! ### Course records (R116 to R118) -/

/-- Whether a configuration engages a slot. -/
def Layout.engages (l : Layout) (slot : Nat) : Bool := (l.config.getD slot coldConfig).assignment != .none

/-- The role of an assignment (R111). -/
def Assignment.role : Assignment → Role
  | .none => .leadin
  | .lead _ => .lead
  | .follow _ _ _ => .follow

/-- The entry of a slot for a course, with the layouts at the course and at the next (R116); absent where the bar takes no
part. -/
def State.formEntry (s : State) (now next : Layout) (slot : Nat) : Option Entry :=
  match now.engages slot, next.engages slot with
  | true, true =>
    match s.pairIn now slot, s.pairIn next slot with
    | some (a, b), some (u, _) =>
      some { slot, role := (now.config.getD slot coldConfig).assignment.role, pair := some (a, b), u, dU := (u - b).natAbs }
    | _, _ => none
  | true, false =>
    (s.pairIn now slot).map fun ab =>
      { slot, role := (now.config.getD slot coldConfig).assignment.role, pair := some ab, u := ab.2, dU := 0 }
  | false, true =>
    (s.pairIn next slot).map fun ab =>
      { slot, role := .leadin, pair := none, u := ab.1, dU := (ab.1 - (s.bar slot).position).natAbs }
  | false, false => none

/-- The overlap shog of an entry, absent for LEADIN (R111). -/
def Entry.dO (e : Entry) : Option Nat := e.pair.map fun ab => (ab.2 - ab.1).natAbs

/-- Whether a position lies in 0..511 and within the limits of a configuration. -/
def BarConfig.admits (c : BarConfig) (x : Int) : Bool :=
  decide (0 ≤ x) && decide (x ≤ 511) && decide (c.low ≤ x) && decide (x ≤ c.high)

/-- Whether an entry fails TRAVEL (R117): a and b against the limits at k, u against those at k and at k + 1. -/
def Entry.failsTravel (e : Entry) (now next : BarConfig) : Bool :=
  (match e.pair with
    | some (a, b) => !now.admits a || !now.admits b
    | none => false)
    || !now.admits e.u || !next.admits e.u

/-- Whether an entry fails SHOG_LIMIT (R117). -/
def Entry.failsShog (e : Entry) (p : Profile) : Bool :=
  decide (p.shogMax < e.dU) || (e.dO.any fun d => decide (p.shogMax < d))

/-- The ceiling of an entry under its bar's profile (R118). -/
def Entry.ceiling (e : Entry) (p : Profile) (sMax : Nat) : Nat :=
  let under := windowCeiling sMax p.underlapWidth (p.requiredTime e.dU)
  match e.dO with
  | some d => min (windowCeiling sMax p.overlapWidth (p.requiredTime d)) under
  | none => under

/-- The profile of the bar of an entry. -/
def State.profileOf (s : State) (e : Entry) : Profile := s.profile (s.bar e.slot).profile

/-- The course record of course k from the layouts at k and k + 1: entries, blocking and ceiling (R116 to R118). -/
def State.formRecord (s : State) (k : Nat) (now next : Layout) : CourseRecord :=
  let entries := slots.filterMap (s.formEntry now next)
  let cfg (l : Layout) (e : Entry) := l.config.getD e.slot coldConfig
  match entries.find? fun e => e.failsTravel (cfg now e) (cfg next e) with
  | some e => { course := k, ceiling := 0, cause := .travel, offending := some e.slot, entries }
  | none =>
    match entries.find? fun e => e.failsShog (s.profileOf e) with
    | some e => { course := k, ceiling := 0, cause := .shogLimit, offending := some e.slot, entries }
    | none =>
      match entries.find? fun e => decide (e.ceiling (s.profileOf e) s.sMax < 10) with
      | some e => { course := k, ceiling := 0, cause := .timing, offending := some e.slot, entries }
      | none =>
        { course := k, ceiling := entries.foldl (fun m e => min m (e.ceiling (s.profileOf e) s.sMax)) s.sMax,
          cause := .none, offending := none, entries }

/-- The record of course C built from the knit cursors (R123): no entries and ceiling 0 while the frame is unwritten. -/
def State.builtRecord (s : State) : CourseRecord :=
  if s.frameWritten then s.formRecord s.shaft.c s.knitLayout (s.advance s.shaft.c s.knitLayout)
  else { course := s.shaft.c, ceiling := 0, cause := .none, offending := none, entries := [] }

/-- A planned or built record that is blocked raises its alert, with the offending slot and its course (R119, R123). -/
def State.raiseBlocked (s : State) (r : CourseRecord) : State :=
  match r.cause with
  | .none => s
  | .travel => s.raiseAlert .travel r.offending (some r.course)
  | .shogLimit => s.raiseAlert .shogLimit r.offending (some r.course)
  | .timing => s.raiseAlert .shogLimit r.offending (some r.course)

/-- BLOCKED_ENTRY is raised where the current record is blocked, with its offending slot and the course C (R122). -/
def State.raiseBlockedEntry (s : State) : State :=
  if s.plan.current.blocked then s.raiseAlert .blockedEntry s.plan.current.offending (some s.shaft.c) else s

/-- A record becomes the current course record and is handed to the Move Unit (R112, R136). -/
def State.setCurrent (s : State) (r : CourseRecord) : State := (s.onPlan fun p => { p with current := r }).handRecord r

/-- The current course record is built from the knit cursors (R123). -/
def State.buildCurrent (s : State) : State := (s.raiseBlocked s.builtRecord).setCurrent s.builtRecord

/-! ### The plan state -/

/-- A copy from the knit cursors, with the advance that carries it to C + 1 (R114). -/
def State.copyFromKnit (s : State) : State :=
  s.onPlan fun p => { p with layout := s.advance s.shaft.c s.knitLayout, planPosition := s.shaft.c + 1 }

/-- Any planning in flight is abandoned, the queue is emptied and H becomes C (R112, R121, R124, R125). -/
def State.emptyPlan (s : State) : State :=
  s.onPlan fun p => { p with queue := [], horizon := s.shaft.c, planning := false }

/-- Whether a planning begins (R115). -/
def State.planningDue (s : State) : Bool :=
  s.frameWritten && !s.plan.suspended && !s.plan.planning && decide (s.plan.queue.length < 32)
    && decide (s.plan.horizon + 1 ≤ Config.courseMax)

/-- The planning of course H + 1 begins, where one may (R115). -/
def State.beginPlanning (s : State) : State := if s.planningDue then s.onPlan fun p => { p with planning := true } else s

/-- The record the planning in flight ends with (R116): that of H + 1, from the plan state and its advance. -/
def State.plannedRecord (s : State) : CourseRecord :=
  let k := s.plan.horizon + 1
  s.formRecord k s.plan.layout (s.advance k s.plan.layout)

/-- The end of the planning in flight, as one act (R119). -/
def State.endPlanning (s : State) : State :=
  let k := s.plan.horizon + 1
  let r := s.plannedRecord
  let t := s.onPlan fun p =>
    { p with
      queue := p.queue ++ [r]
      horizon := k
      planning := false
      planPosition := k + 1
      layout := s.advance k p.layout }
  t.raiseBlocked r

/-- A replan (R125). -/
def State.replan (s : State) : State := s.emptyPlan.buildCurrent.raiseBlockedEntry.copyFromKnit

/-- The shaft state enters REVERSE (R124). -/
def State.enterReverse (s : State) : State := s.emptyPlan.onPlan fun p => { p with suspended := true }

/-- The shaft state leaves REVERSE (R124). -/
def State.leaveReverse (s : State) : State := (s.onPlan fun p => { p with suspended := false }).copyFromKnit

/-- A starved entry (R121); STARVED is raised where the period is valid. -/
def State.starve (s : State) (periodValid : Bool) : State :=
  let t := s.emptyPlan.buildCurrent.raiseBlockedEntry.copyFromKnit
  if periodValid then t.raisePart .starved else t

/-- The planner at a forward course entry that changes C (R120, R121). -/
def State.takeHead (s : State) (periodValid : Bool) : State :=
  match s.plan.queue with
  | r :: rest => ((s.onPlan fun p => { p with queue := rest }).setCurrent r).raiseBlockedEntry
  | [] => s.starve periodValid

/-- OVERSPEED is raised where the valid measured speed exceeds the ceiling of the current record (R122). -/
def State.checkOverspeed (s : State) (periodValid : Bool) : State :=
  if periodValid && decide (s.plan.current.ceiling < s.shaft.measuredSpeed) then s.raisePart .overspeed else s

end Sys2Proof.Machine
end

