-- ==== Sys2Proof/Machine/RingOps.lean ====
section
/-! DEFINITION. The Drive Ring Controller's operations: leaving and entering UP, frames that come home, frames from the drives
and what the Bar Table and the Move Unit do with them (chapter 9, R22, R23, R32, R145). -/

namespace Sys2Proof.Machine

/-! ### Leaving and entering UP (R155, R156) -/

/-- Every outstanding move is discarded (R34, R155). -/
def State.discardMoves (s : State) : State := { s with bars := s.bars.map fun b => { b with move := none } }

/-- Where a bar's state goes when the ring leaves UP (R34). -/
def BarState.unlinked : BarState → BarState
  | .idle => .binding
  | .engaged => .rebinding
  | .faulted => .rebinding
  | .unfitted => .unfitted
  | .parked => .parked
  | .binding => .binding
  | .rebinding => .rebinding

/-- Each bound-side bar moves as R34 gives, in slot order; one that enters BINDING or REBINDING starts an attempt (R19). -/
def State.unlinkBars (s : State) : State :=
  slots.foldl (fun t slot => t.setBarState slot (t.bar slot).state.unlinked) s

/-- The ring leaves UP, in one act (R155). -/
def State.ringLeavesUp (s : State) : State :=
  let t := s.onRing fun r =>
    { r with
      state := .training
      markerRun := 0
      losses := 0
      transit := []
      queue := r.queue.filter (·.isUnbind)
      attempts := r.attempts.mapValues fun _ a => { a with timer := none } }
  (t.discardMoves.unlinkBars.raisePart .linkLost).sendMarker

/-- Each bar in BINDING or REBINDING hands a BIND to the send queue, in slot order (R156). -/
def State.handBinds (s : State) : State :=
  slots.foldl (fun t slot => if (s.bar slot).state.isBinding then t.handBind (s.bar slot).address slot else t) s

/-- The ring enters UP, in one act (R156). -/
def State.ringEntersUp (s : State) : State :=
  (s.onRing fun r => { r with state := .up, losses := 0, idle := 0 }).handBinds

/-- The ring enters TRAINING with marker run 0 and sends its first marker (R150, R165). -/
def State.ringTrains (s : State) : State := (s.onRing fun r => { r with state := .training, markerRun := 0 }).sendMarker

/-! ### Part frames that come home (R151, R152) -/

/-- Whether a transit entry is matched intact by bytes that come home at a time: within 1000 µs of its sending, with its
sequence and its bytes (R151, R152). -/
def Transit.matchedBy (t : Transit) (bytes : List Byte) (now : Nat) : Bool :=
  t.bytes == bytes && bytes[2]? == some t.seq && decide (now ≤ t.sentAt + 1000)

/-- The transit list without the first entry that bytes match at a time. -/
def dropMatched (bytes : List Byte) (now : Nat) : List Transit → List Transit
  | [] => []
  | t :: rest => if t.matchedBy bytes now then rest else t :: dropMatched bytes now rest

/-- A part frame comes home (R151 in TRAINING, R152 in UP): intact and in time, its entry leaves the transit list; changed,
late or matching no entry, it is discarded. -/
def State.frameHome (s : State) (bytes : List Byte) : State :=
  if s.ring.transit.any (·.matchedBy bytes s.now) then
    match s.ring.state with
    | .down => s
    | .training =>
      let t := s.onRing fun r => { r with transit := dropMatched bytes s.now r.transit, markerRun := r.markerRun + 1 }
      if t.ring.markerRun = 4 then t.ringEntersUp else t.sendMarker
    | .up => s.onRing fun r => { r with transit := dropMatched bytes s.now r.transit, losses := 0 }
  else s

/-! ### Frames from the drives (R22, R23, R32, R145) -/

/-- A BIND_ACK reaches a bound-side record (R23). -/
def State.takeBindAck (s : State) (slot carried : Nat) (counts : Int) : State :=
  if carried = slot then
    let placed := s.onBar slot fun b => { b with position := countsToPosition s.gauge b.trim counts }
    match (s.bar slot).state with
    | .binding => ((placed.setBarState slot .idle).raiseBar .barReady slot).commandAtOnce slot
    | .rebinding => placed.setBarState slot .faulted
    | .unfitted | .parked | .idle | .engaged | .faulted => s
  else s

/-- What a matching DONE does to the bar's state, by move kind and tolerance (R145). -/
def State.endMove (s : State) (slot : Nat) (kind : MoveKind) (within : Bool) : State :=
  match kind, within with
  | .pattern, false => s.faultBar slot
  | .recovery, true =>
    if (s.bar slot).state = .faulted then
      ((s.setBarState slot .engaged).raiseBar .barReady slot).commandAtOnce slot
    else s
  | .pattern, true => s
  | .leadin, _ => s
  | .recovery, false => s

/-- A DONE reaches a bound-side record (R145): stale and ignored unless its tag is that of the outstanding move. Out of tolerance
the position is the converted one even where that is the target, and no late flag is set (DEDUCED, log 38). -/
def State.takeDone (s : State) (slot tag : Nat) (reached : Int) : State :=
  match (s.bar slot).move with
  | none => s
  | some m =>
    if m.tag = tag then
      if (reached - m.counts).natAbs ≤ s.tolerance then
        (s.onBar slot fun b => { b with move := none, position := m.target }).endMove slot m.kind true
      else
        ((s.onBar slot fun b =>
          { b with move := none, position := countsToPosition s.gauge b.trim reached }).raiseBar .position slot).endMove
            slot m.kind false
    else s

/-- A FAULT reaches a bound-side record (R32). -/
def State.takeFault (s : State) (slot code : Nat) : State :=
  ((s.onBar slot fun b => { b with driveFault := code }).raiseBar .driveFault slot).faultBar slot

/-- A frame that a drive placed on the ring, with its address and body, acts on the bound-side record that holds the address,
or is discarded where none does (R22). -/
def State.driveFrame (s : State) (address : Byte) (act : Nat → State) : State :=
  match s.slotOfAddress address.toNat with
  | some slot => act slot
  | none => s

/-- A frame reaches the ring input (R161): checked for length, kind and check byte, discarded or taken by its kind and the
ring state. -/
def State.ringInput (s : State) (bytes : List Byte) : State :=
  if frameSound bytes then
    match bytes with
    | [9, address, _, slot, b3, b2, b1, b0, _] =>
      if s.ring.state = .up then
        s.driveFrame address fun n => s.takeBindAck n slot.toNat (countsOf b3 b2 b1 b0)
      else s
    | [10, address, _, tag, b3, b2, b1, b0, _] =>
      if s.ring.state = .up then
        s.driveFrame address fun n => s.takeDone n tag.toNat (countsOf b3 b2 b1 b0)
      else s
    | [11, address, _, code, _] =>
      if s.ring.state = .up then s.driveFrame address fun n => s.takeFault n code.toNat else s
    | _ => s.frameHome bytes
  else s

/-! ### Sending (R153) -/

/-- The bytes of a queued frame before its check byte, for a sequence; a BIND's contents are read here (R153, R159). -/
def State.queuedBytes (s : State) (q : QueuedFrame) (seq : Byte) : List Byte :=
  match q with
  | .marker => markerBytes seq
  | .bind address slot => bindBytes address slot (s.profile (s.bar slot).profile) (pitch s.gauge) seq
  | .unbind address => unbindBytes address seq
  | .move address tag counts budget => moveBytes address tag counts budget seq

/-- A BIND of an attempt is sent: its count rises by 1, holding at 255, and its retry timer restarts at 0 (R157). -/
def State.countBind (s : State) (q : QueuedFrame) : State :=
  match q with
  | .bind _ slot =>
    s.onRing fun r =>
      { r with attempts := r.attempts.modify slot fun a => { a with count := min 255 (a.count + 1), timer := some 0 } }
  | .marker | .unbind _ | .move _ _ _ _ => s

/-- Whether the head of the send queue is sent (R153). -/
def State.sendDue (s : State) : Bool :=
  decide (s.ring.state = .up) && decide (s.ring.transit.length < 16) && !s.ring.queue.isEmpty

/-- The head of the send queue is sent (R153). -/
def State.sendHead (s : State) : State :=
  match s.ring.queue with
  | [] => s
  | q :: rest => ((s.onRing fun r => { r with queue := rest }).transmit (s.queuedBytes q)).countBind q

/-! ### Losses and timers (R151, R152, R154, R158) -/

/-- The oldest transit entry is declared lost while the ring is UP; at the second in a row the ring leaves UP (R152, R155). -/
def State.loseFrame (s : State) : State :=
  let t := s.onRing fun r => { r with transit := r.transit.tail, losses := r.losses + 1 }
  if t.ring.losses = 2 then t.ringLeavesUp else t

/-- The marker in transit is settled as lost (R151). -/
def State.loseMarker (s : State) : State :=
  (s.onRing fun r => { r with transit := r.transit.tail, markerRun := 0 }).sendMarker

/-- The retry timer of an attempt reaches its limit (R158). -/
def State.retry (s : State) (slot : Nat) (a : Attempt) : State :=
  let silent := decide (3 ≤ a.count) && !a.silentRaised
  let t := if silent then s.raiseBar .driveSilent slot else s
  let t := t.onRing fun r =>
    { r with attempts := r.attempts.modify slot fun a => { a with timer := none, silentRaised := a.silentRaised || silent } }
  t.handBind (s.bar slot).address slot

end Sys2Proof.Machine
end

