-- ==== Sys2Proof/Machine/Expiries.lean ====
section
/-! DEFINITION. What the part's own timers do as they reach their limits, and the passing of time with the expiries it brings
(R8, R13, R151, R152, R154, R158). -/

namespace Sys2Proof.Machine

/-! ### The expiries -/

/-- The period and the run start become absent (R13). -/
def Shaft.breakRun (t : Shaft) : Shaft := { t with period := none, runStart := none }

/-- The Shaft Tracker as the stall timer reaches 500,000 µs (R8, R13), whatever it held before (DEDUCED, log 16). -/
def Shaft.stalled (t : Shaft) : Shaft := { t with state := .stopped, stall := 500000 }

/-- The stall timer reaches 500,000 µs (R8, R13, R124): in STOPPED it holds. -/
def State.stallExpires (s : State) : State :=
  match s.shaft.state with
  | .stopped => s.onShaft (·.stalled)
  | .forward => (s.onShaft fun t => t.stalled.breakRun).settle false
  | .reverse => (s.onShaft fun t => t.stalled.breakRun).leaveReverse.settle false

/-- The oldest transit entry has stood 1000 µs: a marker in TRAINING is settled as lost (R151), a frame in UP is declared lost
(R152). -/
def State.transitExpires (s : State) : State :=
  match s.ring.state with
  | .down => s
  | .training => s.loseMarker
  | .up => s.loseFrame.settle false

/-- The idle timer reaches 10,000 µs: a MARKER joins the send queue unless one is queued (R154). DEDUCED,
log 16: the command is that reaching, whatever the timer held. -/
def Ring.idleExpires (r : Ring) : Ring :=
  { r with idle := 10000, queue := if r.queue.any (·.isMarker) then r.queue else r.queue ++ [.marker] }

/-- The retry timer of a slot's attempt reaches 100,000 µs (R158); without an attempt whose timer runs there is no expiry. -/
def State.retryExpires (s : State) (slot : Nat) : State :=
  match s.ring.attempts.find slot with
  | none => s
  | some a => if a.timer.isSome then (s.retry slot a).settle false else s

/-! ### The timers that run -/

/-- A timer of the part that brings something at its limit; that of the transit list is the time its oldest entry has stood. -/
inductive Timer where
  | stall
  | transit
  | idle
  | retry (slot : Nat)
  deriving DecidableEq, Repr

/-- A timer with the time it has left, where it runs. -/
def runsIf (runs : Bool) (k : Timer) (left : Nat) : List (Timer × Nat) := if runs then [(k, left)] else []

/-- The timers that run, each with the time it has left. An idle timer at its limit with a MARKER queued brings nothing more
(R154). -/
def State.timers (s : State) : List (Timer × Nat) :=
  runsIf (decide (s.shaft.state ≠ .stopped)) .stall (500000 - s.shaft.stall)
    ++ (if s.ring.state = .down then []
      else s.ring.transit.head?.toList.map fun t => (.transit, t.sentAt + 1000 - s.now))
    ++ runsIf (decide (s.ring.state = .up) && !s.ring.queue.any (·.isMarker)) .idle (10000 - s.ring.idle)
    ++ s.ring.attempts.cells.filterMap fun ka => ka.2.timer.map fun n => (.retry ka.1, 100000 - n)

/-- The timer that reaches its limit first, with the time it has left; of several, the first in the order of `State.timers`
(DESIGN CHOICE, log 2). -/
def State.nextTimer (s : State) : Option (Timer × Nat) :=
  s.timers.foldl
    (fun best kt =>
      match best with
      | none => some kt
      | some b => if kt.2 < b.2 then some kt else some b)
    none

/-- A timer reaches its limit. -/
def State.expire (s : State) : Timer → State
  | .stall => s.stallExpires
  | .transit => s.transitExpires
  | .idle => s.onRing (·.idleExpires)
  | .retry slot => s.retryExpires slot

/-! ### Time (log 2) -/

/-- An interval passes, with each expiry at its own time, as a step of its own; at most `fuel` of them. -/
def State.elapse : Nat → Nat → State → State
  | 0, left, s => s.passTime left
  | fuel + 1, left, s =>
    match s.nextTimer with
    | some (k, due) => if due ≤ left then State.elapse fuel (left - due) ((s.passTime due).expire k) else s.passTime left
    | none => s.passTime left

/-- A number that the expiries of an interval never exceed: the stall and the idle timer bring one each, every attempt and every
entry in transit one, and the markers of a training one each 1000 µs. -/
def State.expiryBound (s : State) (micros : Nat) : Nat :=
  s.ring.transit.length + s.ring.attempts.cells.length + 3 + micros / 1000

/-- Time goes on to a time of the part's clock, with every expiry that falls due on the way; a time that is past leaves the state
as it is (DESIGN CHOICE, log 2). -/
def State.passUntil (s : State) (time : Nat) : State :=
  if time ≤ s.now then s else State.elapse (s.expiryBound (time - s.now)) (time - s.now) s

end Sys2Proof.Machine
end

