-- ==== Sys2Proof/Machine/BarOps.lean ====
section
/-! DEFINITION. What the Bar Table does at course entries, at an accepted SET_PROFILE and at the application of an edit
(R26, R31, R68, R70), and the pins of the Change Set Unit with the sets it applies (R30, R93, R94). -/

namespace Sys2Proof.Machine

/-! ### Knit cursors at course entries (R68, R70) -/

/-- A bar's knit cursor takes a step, where it holds one. -/
def State.stepKnit (s : State) (step : Cursor → Cursor) (slot : Nat) : State :=
  s.onBar slot fun b => { b with cursor := b.cursor.map step }

/-- Whether an edit of a set that applies at course `e` names a slot. -/
def State.namedAt (s : State) (e slot : Nat) : Bool := (s.editsAt e).any (fun edits => edits.has slot)

/-- Each knit cursor that no edit applied at the new C names takes one forward step (R68). -/
def State.stepKnitForward (s : State) : State :=
  slots.foldl (fun t slot => if s.namedAt s.shaft.c slot then t else t.stepKnit s.stepForward slot) s

/-- Each knit cursor takes one reverse step (R70). -/
def State.stepKnitReverse (s : State) : State := slots.foldl (fun t slot => t.stepKnit s.stepReverse slot) s

/-! ### Rebinding (R25, R26) -/

/-- An IDLE bar discards its outstanding move and enters BINDING (R25, R26). -/
def State.rebind (s : State) (slot : Nat) : State := (s.discardMove slot).setBarState slot .binding

/-- A record that names a changed profile: an IDLE bar rebinds, a BINDING one starts its attempt afresh (R26). -/
def State.profileChanged (s : State) (slot : Nat) : State :=
  match (s.bar slot).state with
  | .idle => s.rebind slot
  | .binding => s.startAttempt slot
  | .unfitted | .parked | .engaged | .faulted | .rebinding => s

/-! ### Edits applied (R31) -/

/-- Where an applied edit takes a bar's state (R31). -/
def BarState.edited (b : BarState) (withdrawn leadInLate : Bool) : BarState :=
  match withdrawn, b with
  | false, .idle => if leadInLate then .faulted else .engaged
  | false, .binding => .rebinding
  | true, .engaged => .idle
  | true, .faulted => .idle
  | true, .rebinding => .binding
  | _, other => other

/-- The program a bar leads, absent where it leads none. -/
def Assignment.program : Assignment → Option Nat
  | .lead program => some program
  | .none => Option.none
  | .follow _ _ _ => Option.none

/-- The references an assignment's change hands on (R29, R55): none where the bar leads one program before and after. -/
def State.moveRefs (s : State) (before after : Assignment) : State :=
  if before.program = after.program then s
  else
    let t := match after.program with
      | some n => s.gainRef n
      | none => s
    match before.program with
    | some n => t.dropRef n
    | none => t

/-- The knit cursor an edit gives (R31). -/
def State.editCursor (s : State) (e : Edit) : Option Cursor :=
  match e.assignment with
  | .lead program entry => s.place program entry
  | .follow _ _ _ => none
  | .withdrawn => none

/-- An edit is applied to its bar record (R31). -/
def State.applyEdit (s : State) (slot : Nat) (e : Edit) : State :=
  let b := s.bar slot
  let t := s.onBar slot fun b =>
    { b with
      low := (e.limits.map (·.1)).getD b.low
      high := (e.limits.map (·.2)).getD b.high
      assignment := e.assignment.made
      cursor := s.editCursor e }
  let t := t.moveRefs b.assignment e.assignment.made
  t.setBarState slot (b.state.edited (decide (e.assignment = .withdrawn)) b.leadInLate)

/-! ### Pins and references of a set (R30, R55) -/

/-- The edits of a COMMITTED set; none otherwise. -/
def State.committedEdits (s : State) (n : Nat) : KMap Edit :=
  match s.changeSet n with
  | .committed edits _ => edits
  | .free | .opened _ => ⟨[]⟩

/-- Whether a set on the commit list holds an edit naming a slot (R30). -/
def State.namedOnList (s : State) (slot : Nat) : Bool :=
  s.changes.commitList.any (fun n => (s.committedEdits n).has slot)

/-- The pinned flag of a slot is set (R30). -/
def State.pin (s : State) (slot : Nat) : State := s.onBar slot fun b => { b with pinned := true }

/-- The pinned flag of a slot is cleared, and the lead-in late flag with it, unless a set on the commit list names the slot
(R30, R91, R93). -/
def State.unpin (s : State) (slot : Nat) : State :=
  if s.namedOnList slot then s else s.onBar slot fun b => { b with pinned := false, leadInLate := false }

/-- The program an edit's LEAD names, absent for any other edit. -/
def Edit.program (e : Edit) : Option Nat := e.assignment.made.program

/-- Each LEAD edit of a set gains a reference (R89). -/
def State.gainRefs (s : State) (edits : KMap Edit) : State :=
  edits.cells.foldl (fun t ke => match ke.2.program with | some n => t.gainRef n | none => t) s

/-- Each LEAD edit of a set releases its reference (R91, R93). -/
def State.dropRefs (s : State) (edits : KMap Edit) : State :=
  edits.cells.foldl (fun t ke => match ke.2.program with | some n => t.dropRef n | none => t) s

/-- A change set becomes another. -/
def State.setChangeSet (s : State) (n : Nat) (v : ChangeSet) : State :=
  s.onChanges fun c => { c with sets := c.sets.set n v }

/-- A set leaves the commit list. -/
def State.unlist (s : State) (n : Nat) : State :=
  s.onChanges fun c => { c with commitList := c.commitList.filter (fun m => m != n) }

/-! ### Application (R93, R94) -/

/-- A committed set is applied at its effective course (R93, R94): its edits in slot order, its references released, the set
FREE and off the list, its pins cleared unless a set still on the list names the slot, the floor set, SET_APPLIED raised. -/
def State.applySet (s : State) (n e : Nat) : State :=
  let edits := s.committedEdits n
  let t := edits.cells.foldl (fun t ke => t.applyEdit ke.1 ke.2) s
  let t := t.dropRefs edits
  let t := (t.unlist n).setChangeSet n .free
  let t := edits.keys.foldl State.unpin t
  (t.onPlan fun p => { p with floor := e }).raiseAlert .setApplied none (some e)

/-- Whether a set is COMMITTED with an effective course. -/
def ChangeSet.appliesAt (c : ChangeSet) (e : Nat) : Bool :=
  match c with
  | .committed _ e' => e' == e
  | .free => false
  | .opened _ => false

/-- Every set at the head of the commit list whose E equals the new C is applied, in commit order (R93). -/
def State.applySets (s : State) : State :=
  (s.changes.commitList.takeWhile fun n => (s.changeSet n).appliesAt s.shaft.c).foldl
    (fun t n => t.applySet n s.shaft.c) s

end Sys2Proof.Machine
end

