-- ==== Sys2Proof/Machine/SetOps.lean ====
section
/-! DEFINITION. The judgement of a commit and a cancel: the resulting configuration, the configuration checks, the order and
the timing of E (R84 to R91). -/

namespace Sys2Proof.Machine

/-- A configuration with the edits of a set laid over it (section 5.3). -/
def layConfig (config : List BarConfig) (edits : KMap Edit) : List BarConfig :=
  edits.cells.foldl (fun c ke => c.modify ke.1 (·.laid ke.2)) config

/-- The configuration of the bar records with the edits of every set on the commit list laid over them (section 5.3). -/
def State.listedConfig (s : State) : List BarConfig :=
  s.changes.commitList.foldl (fun c n => layConfig c (s.committedEdits n)) s.knitLayout.config

/-- The assignment of a slot in a configuration. -/
def assignmentIn (config : List BarConfig) (slot : Nat) : Assignment := (config.getD slot coldConfig).assignment

/-- Whether a slot ends as a LEAD in a configuration. -/
def endsAsLead (config : List BarConfig) (slot : Nat) : Bool :=
  match assignmentIn config slot with
  | .lead _ => true
  | .none => false
  | .follow _ _ _ => false

/-- Whether a slot ends as a follower whose lead is its own slot or does not end as a LEAD (R85). -/
def leadFails (config : List BarConfig) (slot : Nat) : Bool :=
  match assignmentIn config slot with
  | .follow leader _ _ => leader == slot || !endsAsLead config leader
  | .none => false
  | .lead _ => false

/-- Whether a slot ends as a follower of a slot that an edit of the sets names (R88). -/
def followsNamed (config : List BarConfig) (named : Nat → Bool) (slot : Nat) : Bool :=
  match assignmentIn config slot with
  | .follow leader _ _ => named leader
  | .none => false
  | .lead _ => false

/-- The lowest slot of an edit that fails a test. -/
def firstEdit (edits : KMap Edit) (fails : Nat → Edit → Bool) : Option Nat :=
  (edits.cells.find? fun ke => fails ke.1 ke.2).map (·.1)

/-- Whether the program of a LEAD edit is missing or not SEALED (R85). -/
def State.programMissing (s : State) (e : Edit) : Bool := e.program.any fun n => (s.sealOf n).isNone

/-- Whether the entry course of a LEAD edit is at or above its program's course length (R85). -/
def State.entryTooFar (s : State) (e : Edit) : Bool :=
  match e.assignment with
  | .lead program entry => decide (s.courseLength program ≤ entry)
  | .follow _ _ _ => false
  | .withdrawn => false

/-- Whether an edit carries limits with low above high (R85). -/
def Edit.limitsCross (e : Edit) : Bool := e.limits.any fun lh => decide (lh.2 < lh.1)

/-- The first configuration check a commit of these edits fails, with its status and the lowest slot (R84, R85). The two
checks of programs are taken one after the other, each over every edit (DEDUCED, log 33). -/
def State.configFault (s : State) (edits : KMap Edit) : Option (Status × Nat) :=
  let config := layConfig s.listedConfig edits
  ((firstEdit edits fun slot _ => decide ((s.bar slot).state = .parked)).map fun n => (Status.badState, n))
    <|> ((firstEdit edits fun _ e => s.programMissing e).map fun n => (Status.notFound, n))
    <|> ((firstEdit edits fun _ e => s.entryTooFar e).map fun n => (Status.badValue, n))
    <|> ((slots.find? (leadFails config)).map fun n => (Status.leadInvalid, n))
    <|> ((firstEdit edits fun _ e => e.limitsCross).map fun n => (Status.badValue, n))

/-- The angle condition (R88): the angle lies below the underlap window start of the profile of every named slot and of every
follower, in a configuration, of a named slot. -/
def State.angleAllows (s : State) (config : List BarConfig) (named : Nat → Bool) : Bool :=
  slots.all fun slot =>
    !(named slot || followsNamed config named slot) || decide (s.shaft.angle < (s.profile (s.bar slot).profile).us)

/-- The timing minimum of a commit or a cancel (R87, R88): F + 1 while the shaft moves; stopped, C + 1 where the angle
condition holds and C + 2 where it fails. -/
def State.timingMinimum (s : State) (angleAllows : Bool) : Nat :=
  if s.shaft.state = .stopped then (if angleAllows then s.shaft.c + 1 else s.shaft.c + 2) else s.plan.f + 1

/-- The effective course of a set on the commit list. -/
def State.effectiveCourse (s : State) (n : Nat) : Nat :=
  match s.changeSet n with
  | .committed _ e => e
  | .free => 0
  | .opened _ => 0

/-- The greatest effective course on the commit list; 0 where it is empty (R86). -/
def State.greatestE (s : State) : Nat := s.changes.commitList.foldl (fun m n => max m (s.effectiveCourse n)) 0

/-- A replan is handed to the planner where the shaft is STOPPED and E is at or below F (R89, R91); `f` is F before. -/
def State.replanFor (s : State) (e f : Nat) : State :=
  if s.shaft.state = .stopped ∧ e ≤ f then s.replan else s

/-- An accepted commit of a set's edits at E, in one act (R89). -/
def State.commitAt (s : State) (n : Nat) (edits : KMap Edit) (e : Nat) : State :=
  let t := s.setChangeSet n (.committed edits e)
  let t := t.onChanges fun c => { c with commitList := c.commitList ++ [n] }
  let t := edits.keys.foldl State.pin t
  (t.gainRefs edits).replanFor e s.plan.f

/-- The cascade of a cancel: the named set and every set after it on the commit list (R90). -/
def State.cascade (s : State) (n : Nat) : List Nat := s.changes.commitList.dropWhile (fun m => m != n)

/-- A set of a cascade returns to OPEN with its edits kept, and its references are released (R91). -/
def State.reopen (s : State) (n : Nat) : State :=
  ((s.dropRefs (s.committedEdits n)).setChangeSet n (.opened (s.committedEdits n))).unlist n

/-- An accepted cancel, in one act (R91). -/
def State.cancelFrom (s : State) (n : Nat) : State :=
  let gone := s.cascade n
  let t := gone.foldl State.reopen s
  let t := (gone.flatMap fun m => (s.committedEdits m).keys).foldl State.unpin t
  t.replanFor (s.effectiveCourse n) s.plan.f

/-- Whether a slot is named by a set of a cascade whose E is C + 1 (R90). -/
def State.cascadeNames (s : State) (n slot : Nat) : Bool :=
  (s.cascade n).any fun m => decide (s.effectiveCourse m = s.shaft.c + 1) && (s.committedEdits m).has slot

end Sys2Proof.Machine
end

