-- ==== Sys2Proof/Machine/Operands.lean ====
section
/-! DEFINITION. The operand forms of the commands: the direction of a count step from the channel levels (R1), and the fields
of the request bodies read into the values the rules check, clamp and store (section 12.4 with R41, R45, R80, R81, R97 to R99,
R177). -/

namespace Sys2Proof.Machine

/-! ### Count steps (R1) -/

/-- The direction of a count step: from the channel levels before it and the channel that changes (R1). -/
def stepDir (levelA levelB : Bool) : Channel → Dir
  | .a => if levelA = levelB then .forward else .reverse
  | .b => if levelA = levelB then .reverse else .forward

/-- The channel whose change is a step in a direction (R1). -/
def channelOf (levelA levelB : Bool) : Dir → Channel
  | .forward => if levelA = levelB then .a else .b
  | .reverse => if levelA = levelB then .b else .a

/-- The Shaft Tracker with a channel at its new level. -/
def Shaft.toggle (t : Shaft) : Channel → Shaft
  | .a => { t with levelA := !t.levelA }
  | .b => { t with levelB := !t.levelB }

/-- The shaft state a step in a direction gives (R8). -/
def Dir.shaftState : Dir → ShaftState
  | .forward => .forward
  | .reverse => .reverse

/-! ### Clamped values -/

/-- A number taken as the nearest end of a range (Conventions, "clamped"). -/
def clampNat (low high v : Nat) : Nat := max low (min high v)

/-- A signed number taken as the nearest end of a range. -/
def clampInt (low high v : Int) : Int := max low (min high v)

/-! ### Steps (R41, R45) -/

/-- A step as WRITE_STEPS carries it, where it is well formed (R45): its kind is COURSE, OPEN or CLOSE, its fields lie in their
ranges, and the partner of an OPEN or CLOSE is 0. -/
def readStep (b : StepBytes) : Option Step :=
  if b.kind = 1 then
    if b.x.toNat ≤ 511 ∧ b.y.toNat ≤ 511 then some (.course b.x.toNat b.y.toNat) else none
  else if b.kind = 2 then
    if 2 ≤ b.x.toNat ∧ b.x.toNat ≤ 4095 ∧ b.y = 0 then some (.loopOpen b.x.toNat 0) else none
  else if b.kind = 3 then
    if b.x = 0 then some (.loopClose 0) else none
  else none

/-! ### Edits (R80, R81) -/

/-- The assignment of an edit, where its kind is one of the three and every field it carries lies in its range (R81). -/
def readEditAssignment (b : EditBytes) : Option EditAssignment :=
  if b.kind = 1 then
    if 1 ≤ b.program.toNat ∧ b.entryCourse.toNat ≤ 2147483646 then
      some (.lead b.program.toNat b.entryCourse.toNat)
    else none
  else if b.kind = 2 then
    if b.leadSlot.toNat ≤ 63 ∧ -511 ≤ b.offset.toInt ∧ b.offset.toInt ≤ 511 ∧ b.mirror.toNat ≤ 1 then
      some (.follow b.leadSlot.toNat b.offset.toInt (b.mirror == 1))
    else none
  else if b.kind = 3 then some .withdrawn
  else none

/-- An edit, where every field it carries lies in its range (R81); the fields its kind does not carry are not read. -/
def readEdit (b : EditBytes) : Option Edit :=
  match readEditAssignment b with
  | none => none
  | some assignment =>
    if b.limitsPresent = 0 then some { assignment, limits := none }
    else if b.limitsPresent = 1 then
      if b.low.toNat ≤ 511 ∧ b.high.toNat ≤ 511 then
        some { assignment, limits := some ((b.low.toNat : Int), (b.high.toNat : Int)) }
      else none
    else none

/-! ### Profiles (R97 to R99) -/

/-- A profile record as it is stored: the motion fields clamped, the windows as carried (R99). -/
def readProfile (b : ProfileBytes) : Profile :=
  { tAcc := clampNat 100 20000 b.tAcc.toNat
    tNs := clampNat 50 5000 b.tNs.toNat
    tSet := min 5000 b.tSet.toNat
    shogMax := max 1 b.shogMax.toNat
    os := b.os.toNat
    oe := b.oe.toNat
    us := b.us.toNat
    ue := b.ue.toNat }

/-- The place, counting from 0, of the first of the five window conditions of R97 that a record fails (R98); the
count from 0 is that of section 12.4 (DEDUCED, log 22). -/
def Profile.windowFault (p : Profile) : Option Nat :=
  if p.os < 16 then some 0
  else if p.oe < p.os + 32 then some 1
  else if p.us < p.oe then some 2
  else if p.ue < p.us + 32 then some 3
  else if 1008 < p.ue then some 4
  else none

/-! ### Frame constants (R177) -/

/-- The frame constants as they are stored: all but the gauge and the mask clamped (R177). -/
def readFrame (b : FrameBytes) : FrameConstants :=
  { gauge := b.gauge.toNat
    fitted := b.fitted
    d := clampNat 1 200 b.d.toNat
    sMax := clampNat 100 1500 b.sMax.toNat
    tolerance := clampNat 1 1000 b.tolerance.toNat }

end Sys2Proof.Machine
end

