-- ==== Sys2Proof/Machine/Responses.lean ====
section
/-! DEFINITION. The bodies of the responses, byte by byte (section 12.4, "Response bodies"): the items in the order their rule
lists them, each number in the fewest whole bytes that hold its range, a named value as its place in the list where its values
are first given, an optional item after a presence byte, a list after the number of its elements.
DEDUCED, log 7: every item that its rule makes conditional takes a presence byte of its own. -/

namespace Sys2Proof.Machine

/-! ### Items -/

/-- A yes/no item. -/
def yesNo (b : Bool) : List Byte := [if b then 1 else 0]

/-- An optional item: a presence byte, and its value where present. -/
def optional {α : Type} (f : α → List Byte) : Option α → List Byte
  | none => [0]
  | some v => 1 :: f v

/-- A list: the number of its elements, then the elements. -/
def listed {α : Type} (f : α → List Byte) (l : List α) : List Byte := BitVec.ofNat 8 l.length :: l.flatMap f

/-- A line, asserted or released. -/
def lineByte (asserted : Bool) : List Byte := [if asserted then 0 else 1]

/-- The code of a status (section 12.4). -/
def Status.code : Status → Byte
  | .ok => 0
  | .pending => 1
  | .busy => 2
  | .unknown => 3
  | .badLength => 4
  | .badSlot => 5
  | .badState => 6
  | .badValue => 7
  | .noFrame => 8
  | .writtenOnce => 9
  | .addressTaken => 10
  | .inUse => 11
  | .pinned => 12
  | .referenced => 13
  | .noSpace => 14
  | .notFound => 15
  | .exists_ => 16
  | .incomplete => 18
  | .structure_ => 19
  | .tooLong => 20
  | .tooLate => 21
  | .order => 22
  | .leadInvalid => 23
  | .window => 24
  | .moving => 25
  | .inputActive => 26

/-- The place of a bar state in the list of chapter 2. -/
def BarState.place : BarState → Byte
  | .unfitted => 0
  | .parked => 1
  | .binding => 2
  | .idle => 3
  | .engaged => 4
  | .faulted => 5
  | .rebinding => 6

/-- The place of a side in the list of chapter 2. -/
def Side.place : Side → Byte
  | .pre => 0
  | .between => 1
  | .post => 2

/-- The place of a shaft state in the list of chapter 1. -/
def ShaftState.place : ShaftState → Byte
  | .stopped => 0
  | .forward => 1
  | .reverse => 2

/-- The place of a ring state in the list of chapter 9. -/
def RingState.place : RingState → Byte
  | .down => 0
  | .training => 1
  | .up => 2

/-- The place of a blocked cause in the list of R111. -/
def Cause.place : Cause → Byte
  | .none => 0
  | .travel => 1
  | .shogLimit => 2
  | .timing => 3

/-- The place of a role in the list of R111. -/
def Role.place : Role → Byte
  | .lead => 0
  | .follow => 1
  | .leadin => 2

/-- The place of a piece state in the list of chapter 11. -/
def PieceState.place : PieceState → Byte
  | .paused => 0
  | .counting => 1

/-- The place of a reset kind in the list of chapter 12. -/
def ResetKind.place : ResetKind → Byte
  | .cold => 0
  | .warm => 1

/-- The place of the cause of a failed seal in the list of R47. -/
def ScanFault.place : ScanFault → Byte
  | .tooDeep => 0
  | .unmatchedClose => 1
  | .emptyLoop => 2
  | .unclosedOpen => 3
  | .noCourse => 4

/-- A step in the step encoding (section 12.4). -/
def stepItem : Step → List Byte
  | .course a b => 1 :: (beBytes 2 a ++ beBytes 2 b)
  | .loopOpen n p => 2 :: (beBytes 2 n ++ beBytes 2 p)
  | .loopClose p => 3 :: (beBytes 2 p ++ [0, 0])

/-! ### Responses -/

/-- A frame of a loop stack (R36). -/
def loopFrameItem (f : LoopFrame) : List Byte := beBytes 2 f.openIndex ++ beBytes 2 f.iteration ++ beBytes 2 f.count

/-- A knit cursor (R36). -/
def cursorItem (c : Cursor) : List Byte := beBytes 2 c.index ++ beBytes 4 c.course ++ listed loopFrameItem c.stack

/-- An outstanding move (R36); target counts lie in −2000..25,960,800 (R148) and take four signed bytes. -/
def moveItem (m : Move) : List Byte :=
  beBytes 1 m.tag ++ beSigned 2 m.target ++ beSigned 4 m.counts ++ [m.side.place]

/-- An assignment, one of three alternatives (R36). -/
def assignmentItem : Assignment → List Byte
  | .none => [0]
  | .lead program => 1 :: beBytes 1 program
  | .follow leader offset mirror => 2 :: (beBytes 1 leader ++ beSigned 2 offset ++ yesNo mirror)

/-- The body of QUERY_BAR (R36). -/
def barBody (b : Bar) : List Byte :=
  [b.state.place] ++ beBytes 1 b.address ++ beBytes 1 b.profile ++ beSigned 2 b.trim ++ beSigned 2 b.low ++ beSigned 2 b.high
    ++ assignmentItem b.assignment ++ optional cursorItem b.cursor ++ beSigned 2 b.position ++ optional moveItem b.move
    ++ yesNo b.leadInLate ++ beBytes 1 b.driveFault ++ yesNo b.pinned

/-- The body of QUERY_PROGRAM (R53). -/
def programBody (p : Program) : List Byte :=
  yesNo p.sealInfo.isSome ++ beBytes 2 p.length ++ listed (beBytes 2) p.pages ++ beBytes 2 p.written
    ++ optional (beBytes 4) (p.sealInfo.map (·.courseLength)) ++ optional (beBytes 1) (p.sealInfo.map (·.depth))
    ++ optional (beBytes 2) (p.sealInfo.map (·.refs))

/-- The body of QUERY_STORE (R54). -/
def storeBody (st : PatternStore) : List Byte :=
  beBytes 2 st.free.length ++ beBytes 1 (st.programs.cells.countP fun c => c.2.sealInfo.isNone)
    ++ beBytes 1 (st.programs.cells.countP fun c => c.2.sealInfo.isSome)

/-- The assignment of an edit, one of three alternatives, each with the fields of its kind and no presence bytes (R80, R92;
DESIGN CHOICE, log 36). -/
def editAssignmentItem : EditAssignment → List Byte
  | .lead program entry => 0 :: (beBytes 1 program ++ beBytes 4 entry)
  | .follow leader offset mirror => 1 :: (beBytes 1 leader ++ beSigned 2 offset ++ yesNo mirror)
  | .withdrawn => [2]

/-- An edit with its slot (R92). -/
def editItem (ke : Nat × Edit) : List Byte :=
  beBytes 1 ke.1 ++ editAssignmentItem ke.2.assignment
    ++ optional (fun lh : Int × Int => beSigned 2 lh.1 ++ beSigned 2 lh.2) ke.2.limits

/-- The place of a set on the commit list, from 1 (R92). -/
def ChangeSets.place (c : ChangeSets) (n : Nat) : Nat := c.commitList.idxOf n + 1

/-- The body of QUERY_SET (R92). -/
def setBody (c : ChangeSets) (n : Nat) : ChangeSet → List Byte
  | .free => [0] ++ [0] ++ [0] ++ [0]
  | .opened edits => [1] ++ optional (listed editItem) (some edits.cells) ++ [0] ++ [0]
  | .committed edits e =>
    [2] ++ optional (listed editItem) (some edits.cells) ++ optional (beBytes 4) (some e)
      ++ optional (beBytes 1) (some (c.place n))

/-- A profile record (R99, R103). -/
def profileItem (p : Profile) : List Byte :=
  beBytes 2 p.tAcc ++ beBytes 2 p.tNs ++ beBytes 2 p.tSet ++ beBytes 1 p.shogMax ++ beBytes 2 p.os ++ beBytes 2 p.oe
    ++ beBytes 2 p.us ++ beBytes 2 p.ue

/-- The body of QUERY_PROFILE (R103). -/
def State.profileBody (s : State) (n : Nat) : List Byte :=
  profileItem (s.profile n) ++ yesNo (s.profileUser n).isSome ++ optional (beBytes 1) (s.profileUser n)

/-- The planning item of QUERY_MOTION, one of three alternatives (R129). -/
def planningItem (p : Planner) : List Byte :=
  if p.suspended then [2] else if p.planning then 1 :: beBytes 4 (p.horizon + 1) else [0]

/-- The body of QUERY_MOTION (R129). -/
def State.motionBody (s : State) : List Byte :=
  beBytes 4 s.shaft.c ++ beBytes 4 s.plan.horizon ++ beBytes 4 s.plan.f ++ beBytes 4 s.plan.floor ++ beBytes 2 s.shaft.hold
    ++ [s.shaft.state.place] ++ beBytes 2 s.shaft.angle ++ beBytes 2 s.shaft.measuredSpeed ++ yesNo s.shaft.period.isSome
    ++ planningItem s.plan ++ beBytes 2 s.plan.p ++ beBytes 2 s.plan.sCap

/-- An entry of a course record (R130, R111). -/
def entryItem (e : Entry) : List Byte :=
  beBytes 1 e.slot ++ [e.role.place] ++ optional (beSigned 2) (e.pair.map (·.1)) ++ optional (beSigned 2) (e.pair.map (·.2))
    ++ beSigned 2 e.u ++ optional (beBytes 2) e.dO ++ beBytes 2 e.dU

/-- The body of QUERY_COURSE from a first slot on (R130). -/
def courseBody (r : CourseRecord) (firstSlot : Nat) : List Byte :=
  let from_ := r.entries.filter (fun e => decide (firstSlot ≤ e.slot))
  beBytes 4 r.course ++ beBytes 2 r.ceiling ++ [r.cause.place] ++ optional (beBytes 1) r.offending
    ++ beBytes 1 r.entries.length ++ listed entryItem (from_.take 16)
    ++ optional (beBytes 1) ((from_.drop 16).head?.map (·.slot))

/-- A binding attempt with its slot (R163). The third item is timer running where the retry timer runs and waiting for the ring
where it is stopped; DESIGN CHOICE, log 20: so too where the ring is UP and the attempt's BIND is still queued, a case for which
R163 gives neither value. -/
def attemptItem (ka : Nat × Attempt) : List Byte :=
  beBytes 1 ka.1 ++ beBytes 1 ka.2.count ++ [if ka.2.timer.isSome then 1 else 0] ++ yesNo ka.2.silentRaised

/-- The body of QUERY_RING (R163). -/
def ringBody (r : Ring) : List Byte :=
  [r.state.place] ++ beBytes 1 (if r.state = .training then r.markerRun else 0)
    ++ beBytes 1 (if r.state = .up then r.losses else 0) ++ beBytes 1 r.transit.length ++ beBytes 1 r.queue.length
    ++ [r.nextSeq] ++ listed attemptItem r.attempts.cells

/-- The pending, count and first occurrence of an alert record (R175). -/
def alertItem (r : AlertRecord) : List Byte :=
  yesNo r.pending ++ beBytes 1 r.count ++ optional (beBytes 1) r.slot ++ optional (beBytes 4) r.course

/-- The record of an alert kind; a number of no kind reads as nothing pending. -/
def AlertUnit.record (u : AlertUnit) (kind : Nat) : AlertRecord := u.records.getD kind clearAlert

/-- The level of an alert kind. -/
def AlertUnit.level (u : AlertUnit) (kind : Nat) : Nat := u.levels.getD kind 15

/-- The kinds in urgency order (R174): the pending ones by level and kind number, then the others by kind number. -/
def AlertUnit.urgencyOrder (u : AlertUnit) : List Nat :=
  let kinds := List.range Config.alertCount
  (List.range 16).flatMap (fun level => kinds.filter fun k => (u.record k).pending && u.level k == level)
    ++ kinds.filter fun k => !(u.record k).pending

/-- The body of QUERY_ALERTS (R174). -/
def alertsBody (u : AlertUnit) : List Byte :=
  lineByte u.stop ++ lineByte u.attention ++ lineByte u.haltLatch ++ lineByte u.emergencyActive ++ beBytes 1 u.threshold
    ++ listed (fun k => beBytes 1 k ++ beBytes 1 (u.level k) ++ alertItem (u.record k)) u.urgencyOrder

/-- A mask of slots: eight bytes, most significant first (section 12.4). -/
def maskItem (m : BitVec 64) : List Byte := beBytes 8 m.toNat

/-- The frame constants (R177). -/
def frameItem (f : FrameConstants) : List Byte :=
  beBytes 1 f.gauge ++ maskItem f.fitted ++ beBytes 1 f.d ++ beBytes 2 f.sMax ++ beBytes 2 f.tolerance

/-- The body of QUERY_FRAME (R180). -/
def frameBody (f : Option FrameConstants) : List Byte :=
  yesNo f.isSome ++ optional (beBytes 1) (f.map (·.gauge)) ++ optional maskItem (f.map (·.fitted))
    ++ optional (beBytes 1) (f.map (·.d)) ++ optional (beBytes 2) (f.map (·.sMax))
    ++ optional (beBytes 2) (f.map (·.tolerance))

/-- The body of every piece request (R182). -/
def piecesBody (p : PieceCounter) : List Byte :=
  [p.state.place] ++ beBytes 3 p.preload ++ beBytes 3 p.count ++ beBytes 2 p.pieces

/-- The body of QUERY_STATUS (R190). -/
def State.statusBody (s : State) : List Byte :=
  [s.port.resetKind.place, s.ring.state.place] ++ yesNo s.frameWritten

/-- The bytes of a response from the second byte of a read: status, body length, body (R186, section 12.4). -/
def Reply.bytes (r : Reply) : List Byte := r.status.code :: (beBytes 2 r.body.length ++ r.body)

end Sys2Proof.Machine
end

