-- ==== Sys2Proof/Machine/PortOps.lean ====
section
/-! DEFINITION. The Pattern Port: taking a request, holding its response, and reads (R184 to R187). -/

namespace Sys2Proof.Machine

/-- An accepted request's reply. -/
def okReply (body : List Byte) : Reply := { status := .ok, body }

/-- A reply with a status and no body. -/
def refusal (status : Status) : Reply := { status, body := [] }

/-- Whether the port is PERFORMING. -/
def Port.performing (p : Port) : Bool := p.inFlight.isSome

/-- What the part shifts out in a request transaction of n bytes: the taking byte, then 0 in every later place (R184). -/
def takingBytes (status : Status) (n : Nat) : List Byte := (status.code :: List.replicate (n - 1) 0).take n

/-- A reply becomes the held response, unread, and the port returns to IDLE (R186). -/
def State.hold (s : State) (r : Reply) : State :=
  s.onPort fun p => { p with inFlight := none, held := some { reply := r, wasRead := false } }

/-- The bytes shifted out in a transaction. -/
def State.shiftOut (s : State) (bytes : List Byte) : State := s.onPort fun p => { p with dataOut := bytes }

/-- A request transaction that began while PERFORMING: refused with BUSY and discarded (R185). -/
def State.refuseBusy (s : State) (n : Nat) : State := s.shiftOut (takingBytes .busy n)

/-- The port takes a request transaction of n bytes (R184, R185): its taking byte is OK and the held response is discarded. -/
def State.takeRequest (s : State) (n : Nat) : State :=
  (s.onPort fun p => { p with held := none }).shiftOut (takingBytes .ok n)

/-- A request whose body has `length` bytes is taken: refused with BUSY while the port is PERFORMING, performed whole
otherwise, its reply held (R185, R186). -/
def State.request (s : State) (length : Nat) (perform : State → State × Reply) : State :=
  if s.port.performing then s.refuseBusy (length + 2)
  else
    let r := perform (s.takeRequest (length + 2))
    r.1.hold r.2

/-- A request that may stay in flight is taken: an answer at once holds it, otherwise the request is in flight (R186). -/
def State.requestLong (s : State) (length : Nat) (perform : State → State × (Reply ⊕ InFlight)) : State :=
  if s.port.performing then s.refuseBusy (length + 2)
  else
    let r := perform (s.takeRequest (length + 2))
    match r.2 with
    | .inl reply => r.1.hold reply
    | .inr flight => r.1.onPort fun p => { p with inFlight := some flight }

/-- The answer a read transaction finds (R187). -/
def Port.answer (p : Port) : Reply :=
  if p.performing then refusal .pending
  else
    match p.held with
    | some h => h.reply
    | none => refusal .badState

/-- What a read of n bytes shifts out: 0, then the answer, then 0 in every place beyond its end (R187). -/
def readBytes (answer : Reply) (n : Nat) : List Byte := ((0 :: answer.bytes) ++ List.replicate n 0).take n

/-- A read transaction of n bytes (R187): the held response becomes read; released before one whole byte, it is ignored
(R184). -/
def State.readTransaction (s : State) (n : Nat) : State :=
  if n = 0 then s
  else
    s.onPort fun p =>
      { p with
        dataOut := readBytes p.answer n
        held := if p.performing then p.held else p.held.map fun h => { h with wasRead := true } }

end Sys2Proof.Machine
end

