-- ==== Sys2Proof/Machine/ShaftEvents.lean ====
section
/-! DEFINITION. The commands of the main shaft: count steps, course entries and the stall (chapter 1), with what every block does
at a course entry (R5). -/

namespace Sys2Proof.Machine

/-- What a command answers. -/
abbrev Answer := Host.Outcome State Fault Refusal

/-! ### Count steps (R1 to R3, R8, R13) -/

/-- A step in a direction restarts the stall timer and sets the shaft state; a reverse step breaks the run (R8, R13). -/
def Shaft.stepped (t : Shaft) (d : Dir) : Shaft :=
  let t := { t with stall := 0, state := d.shaftState }
  if d = .reverse then t.breakRun else t

/-- A change of shaft state is handed to the planner and the Move Unit (R8, R124, R134); `before` is the state it changed
from. -/
def State.handShaftState (s : State) (before : ShaftState) (d : Dir) : State :=
  if before = d.shaftState then s
  else
    let t : State :=
      match d with
      | .reverse => s.enterReverse
      | .forward => if before = ShaftState.reverse then s.leaveReverse else s
    t.turnHeading d

/-- What every count step does first: the channel changes, and the shaft state, the stall timer and the run follow the
direction (R1, R8, R13). The change of shaft state is handed on before the step acts on the angle (R8; DEDUCED for an
ordinary step, log 6). -/
def State.beginStep (s : State) (channel : Channel) (d : Dir) : State :=
  (s.onShaft fun t => (t.toggle channel).stepped d).handShaftState s.shaft.state d

/-- The overrun with one more step on a side, holding at 65,535 (R2). -/
def Shaft.overrunMore (t : Shaft) (d : Dir) : Shaft := { t with overrun := min 65535 (t.overrun + 1), overrunSide := d }

/-- The overrun with one step given back; slip raised falls with the overrun's return to 0 (R2). -/
def Shaft.overrunLess (t : Shaft) : Shaft :=
  { t with overrun := t.overrun - 1, slipRaised := if t.overrun - 1 = 0 then false else t.slipRaised }

/-- An ordinary step moves the angle, or goes into or comes out of the overrun (R2). -/
def Shaft.countStep (t : Shaft) (d : Dir) : Shaft :=
  match d with
  | .forward =>
    if t.overrun ≠ 0 ∧ t.overrunSide = .reverse then t.overrunLess
    else if t.angle < 1023 then { t with angle := t.angle + 1 }
    else t.overrunMore .forward
  | .reverse =>
    if t.overrun ≠ 0 ∧ t.overrunSide = .forward then t.overrunLess
    else if 0 < t.angle then { t with angle := t.angle - 1 }
    else t.overrunMore .reverse

/-- Whether a step from one overrun to another raises SHAFT_SLIP (R3): it has reached 9, the angle is found and SHAFT_SLIP is
not yet raised. -/
def Shaft.slips (before after : Shaft) : Bool :=
  decide (before.overrun < after.overrun) && decide (after.overrun = 9) && before.angleFound && !before.slipRaised

/-- SHAFT_SLIP is raised for an overrun where `slips` says so, once for the excursion (R3). -/
def State.raiseOverrunSlip (s : State) (slips : Bool) : State :=
  if slips then (s.raisePart .shaftSlip).onShaft fun t => { t with slipRaised := true } else s

/-- ORDINARY_STEP (R1, R2, R3, R7, R8, R13). -/
def execOrdinaryStep (channel : Channel) (s : State) : Answer :=
  let d := stepDir s.shaft.levelA s.shaft.levelB channel
  let t := s.beginStep channel d
  let u := (t.onShaft (·.countStep d)).raiseOverrunSlip (t.shaft.slips (t.shaft.countStep d))
  .next ((if u.shaft.angle = t.shaft.angle then u else u.moveAngle u.shaft.angle).settle false)

/-- Both channels take new levels together: no step (R1). -/
def Shaft.skip (t : Shaft) : Shaft := { t with levelA := !t.levelA, levelB := !t.levelB }

/-- SKIPPED_COUNT (R1): the levels before the next change are the new ones, and nothing else changes. -/
def execSkippedCount (s : State) : Answer := .next (s.onShaft (·.skip))

/-- INDEX_WITHOUT_STEP (R4): no course entry; where the index came with a skipped count, the levels are the new ones. -/
def execIndexWithoutStep (withSkippedCount : Bool) (s : State) : Answer :=
  .next (if withSkippedCount then s.onShaft (·.skip) else s)

/-! ### Course entries (R4 to R6, R9 to R12) -/

/-- The boundary error of an index step (R6). -/
def Shaft.boundaryError (t : Shaft) (d : Dir) : Nat :=
  match d with
  | .forward =>
    if t.overrun = 0 then 1023 - t.angle else if t.overrunSide = .forward then t.overrun else 1023 + t.overrun
  | .reverse =>
    if t.overrun = 0 then t.angle else if t.overrunSide = .reverse then t.overrun else 1023 + t.overrun

/-- Whether an index step raises SHAFT_SLIP: its boundary error is above 8, the angle was found before it, and SHAFT_SLIP was
not raised in the excursion that made the error (R6). -/
def Shaft.boundarySlips (t : Shaft) (d : Dir) : Bool :=
  decide (8 < t.boundaryError d) && t.angleFound && !t.slipRaised

/-- The Shaft Tracker at the boundary after an index step (R4). -/
def Shaft.atBoundary (t : Shaft) (d : Dir) : Shaft :=
  { t with
    angle := match d with
      | .forward => 0
      | .reverse => 1023
    overrun := 0
    slipRaised := false
    angleFound := true }

/-- The period captured at a time (R12): the run time, holding at 4,294,967,295, or absent where the run is not clean. A run
time is at least 1 µs (log 24). -/
def Shaft.captured (t : Shaft) (time : Nat) : Option Nat :=
  t.runStart.map fun start => max 1 (min 4294967295 (time - start))

/-- C, the hold count, the period and the run start at a forward course entry (R9, R12). -/
def Shaft.countForward (t : Shaft) (time : Nat) : Shaft :=
  if 0 < t.hold then { t with hold := t.hold - 1, runStart := some time }
  else if t.c < Config.courseMax then { t with c := t.c + 1, period := t.captured time, runStart := some time }
  else { t with period := t.captured time, runStart := some time }

/-- C and the hold count at a reverse course entry, with the reverse floor (R10). -/
def Shaft.countReverse (t : Shaft) (floor : Nat) : Shaft :=
  if floor < t.c then { t with c := t.c - 1 } else { t with hold := min 65535 (t.hold + 1) }

/-- The course entry report of an index step, from the Shaft Tracker before and after it (R5). -/
def courseReport (before after : Shaft) (d : Dir) : CourseReport :=
  { dir := d, cChanged := before.c != after.c, c := after.c, hold := after.hold, angleBefore := before.angle,
    periodValid := after.period.isSome }

/-- A piece is counted out: the count is reloaded, pieces rise and PIECE_END is raised (R181). -/
def State.endPiece (s : State) : State :=
  (s.onPieces fun p => { p with count := p.preload, pieces := min 65535 (p.pieces + 1) }).raisePart .pieceEnd

/-- The piece counter acts on a report (R181). -/
def State.countPieces (s : State) (r : CourseReport) : State :=
  if r.cChanged && s.pieces.state == .counting then
    match r.dir with
    | .forward =>
      if s.pieces.count = 1 then s.endPiece else s.onPieces fun p => { p with count := p.count - 1 }
    | .reverse =>
      if s.pieces.count < s.pieces.preload then s.onPieces fun p => { p with count := p.count + 1 } else s
  else s

/-- The Bar Table and the Change Set Unit act on a report (R68 to R71, R93). -/
def State.entryBars (s : State) (r : CourseReport) : State :=
  if r.cChanged then
    match r.dir with
    | .forward => s.stepKnitForward.applySets
    | .reverse => s.stepKnitReverse
  else s

/-- The Course Planner acts on a report (R120 to R122, R124). -/
def State.entryPlan (s : State) (r : CourseReport) : State :=
  match r.dir with
  | .forward => (if r.cChanged then s.takeHead r.periodValid else s).checkOverspeed r.periodValid
  | .reverse => if r.cChanged then s.emptyPlan.buildCurrent.raiseBlockedEntry else s

/-- The Move Unit ends its handling of a report: it adopts the next record, places the trackers at the new angle and takes
the hold count (R136, R142). -/
def State.entryPlace (s : State) (r : CourseReport) : State :=
  s.adoptNext.placeTrackers.onMoves fun m => { m with heldHold := r.hold }

/-- Every receiving block takes a course entry report (R5): the Move Unit's sweep comes before the application (R31, R142). -/
def State.takeReport (s : State) (r : CourseReport) : State :=
  ((((s.sweep r.dir r.angleBefore).entryBars r).entryPlan r).entryPlace r).countPieces r

/-- FORWARD_COURSE_ENTRY at a time in µs on the Shaft Tracker's clock (R4 to R6, R9, R11, R12): whatever timer reaches its limit
by that time does so before the entry (R8, R13; log 2). -/
def execForwardCourseEntry (time : Nat) (s : State) : Answer :=
  let t := s.passUntil time
  let t := t.beginStep (channelOf t.shaft.levelA t.shaft.levelB .forward) .forward
  let after := (t.shaft.atBoundary .forward).countForward t.now
  let u := t.onShaft fun _ => after
  let u := if t.shaft.boundarySlips .forward then u.raisePart .shaftSlip else u
  .next ((u.takeReport (courseReport t.shaft after .forward)).settle true)

/-- REVERSE_COURSE_ENTRY (R4 to R6, R10). -/
def execReverseCourseEntry (s : State) : Answer :=
  let t := s.beginStep (channelOf s.shaft.levelA s.shaft.levelB .reverse) .reverse
  let after := (t.shaft.atBoundary .reverse).countReverse t.plan.floor
  let u := t.onShaft fun _ => after
  let u := if t.shaft.boundarySlips .reverse then u.raisePart .shaftSlip else u
  let u := if t.shaft.c ≤ t.plan.floor then u.raisePart .reverseFloor else u
  .next ((u.takeReport (courseReport t.shaft after .reverse)).settle false)

/-! ### The stall (R8, R13) -/

/-- STALL_TIMER_EXPIRY (R8, R13, R124): in STOPPED the timer holds. -/
def execStallTimerExpiry (s : State) : Answer := .next s.stallExpires

end Sys2Proof.Machine
end

