-- ==== Sys2Proof/Machine/PartEvents.lean ====
section
/-! DEFINITION. The events of the emergency input, the speed line, the planner, the drive ring and the seal. An event whose
condition does not hold is no event of the part and changes nothing (DESIGN CHOICE, log 3). -/

namespace Sys2Proof.Machine

/-! ### The emergency input (R172) -/

/-- EMERGENCY_INPUT_ACTIVE (R172): the halt latch is set, EMERGENCY raised, the lines recomputed. -/
def execEmergencyInputActive (s : State) : Answer :=
  if s.alerts.emergencyActive then .next s
  else
    .next (((s.onAlerts fun u => { u with emergencyActive := true, haltLatch := true }).raisePart .emergency).settle false)

/-- EMERGENCY_INPUT_INACTIVE (R172): the level is recorded, the latch and the lines stand. -/
def execEmergencyInputInactive (s : State) : Answer := .next (s.onAlerts fun u => { u with emergencyActive := false })

/-! ### The speed line and the planner (R115, R119, R127) -/

/-- The speed message being sent ends; a pending one begins, holding P as it stands (R127). -/
def SpeedLine.messageEnds (l : SpeedLine) (p : Nat) : SpeedLine :=
  if l.again then { sending := some (speedMessage p), again := false } else { sending := none, again := false }

/-- SPEED_MESSAGE_END (R127). -/
def execSpeedMessageEnd (s : State) : Answer :=
  .next (if s.speedLine.sending.isSome then s.onSpeedLine (·.messageEnds s.plan.p) else s)

/-- PLANNING_START (R115). DESIGN CHOICE, log 18: how long a planning, a seal or a message takes is left to the commands that
end it. -/
def execPlanningStart (s : State) : Answer := .next s.beginPlanning

/-- PLANNING_END (R119). -/
def execPlanningEnd (s : State) : Answer := .next (if s.plan.planning then s.endPlanning.settle false else s)

/-! ### The drive ring (R151 to R154, R158, R161) -/

/-- FRAME_SEND (R153). -/
def execFrameSend (s : State) : Answer := .next (if s.sendDue then s.sendHead else s)

/-- MARKER_RETURN (R151, R161): a frame that comes home. DESIGN CHOICE, log 12: the bytes decide what the frame is. -/
def execMarkerReturn (bytes : List Byte) (s : State) : Answer := .next ((s.ringInput bytes).settle false)

/-- MARKER_LOST (R151): the oldest transit entry (log 17). -/
def execMarkerLost (s : State) : Answer :=
  .next (if s.ring.state = .training ∧ s.ring.transit ≠ [] then s.transitExpires else s)

/-- PART_FRAME_RETURN (R152, R161): a frame that comes home. -/
def execPartFrameReturn (bytes : List Byte) (s : State) : Answer := .next ((s.ringInput bytes).settle false)

/-- FRAME_DECLARED_LOST (R152, R155): the oldest transit entry is the first to stand 1000 µs (log 17). -/
def execFrameDeclaredLost (s : State) : Answer :=
  .next (if s.ring.state = .up ∧ s.ring.transit ≠ [] then s.transitExpires else s)

/-- IDLE_TIMER_EXPIRY (R154). -/
def execIdleTimerExpiry (s : State) : Answer := .next (if s.ring.state = .up then s.onRing (·.idleExpires) else s)

/-- RETRY_EXPIRY of a slot's binding attempt (R158): no event where the attempt is absent or its timer stopped
(log 3), and whatever the running timer holds otherwise (DEDUCED, log 16). -/
def execRetryExpiry (slot : Nat) (s : State) : Answer := .next (s.retryExpires slot)

/-- BIND_ACK (R22, R23, R161). -/
def execBindAck (bytes : List Byte) (s : State) : Answer := .next ((s.ringInput bytes).settle false)

/-- DONE (R22, R145, R161). -/
def execDone (bytes : List Byte) (s : State) : Answer := .next ((s.ringInput bytes).settle false)

/-- FAULT (R22, R32, R161). -/
def execFault (bytes : List Byte) (s : State) : Answer := .next ((s.ringInput bytes).settle false)

/-! ### The seal (R47 to R50) -/

/-- The seal of a program succeeds, in one act: partners, state, course length, depth and a reference count of 0 (R50). -/
def State.sealProgram (s : State) (n : Nat) (p : Program) (steps : List Step) (courseLength depth : Nat) : State :=
  s.onStore fun st =>
    let st := st.writeSteps p 0 steps
    { st with programs := st.programs.put n { p with sealInfo := some { courseLength, depth, refs := 0 } } }

/-- The seal in flight of a program ends (R47 to R50). DEDUCED, log 29: its passes are performed whole at this end. -/
def State.endSeal (s : State) (n : Nat) (p : Program) : State :=
  match sealSteps (s.store.stepsOf p) with
  | .structureFault cause i => s.hold { status := .structure_, body := cause.place :: beBytes 2 i }
  | .tooLong => s.hold (refusal .tooLong)
  | .success steps courseLength depth =>
    (s.sealProgram n p steps courseLength depth).hold (okReply (beBytes 4 courseLength ++ beBytes 1 depth))

/-- SEAL_END (R46 to R50): no event where no seal is in flight. -/
def execSealEnd (s : State) : Answer :=
  match s.port.inFlight with
  | some (.sealing n) =>
    match s.store.programs.find n with
    | some p => .next (s.endSeal n p)
    | none => .next s
  | some .restart => .next s
  | none => .next s

end Sys2Proof.Machine
end

