-- ==== Sys2Proof/Machine/BarRequests.lean ====
section
/-! DEFINITION. The bar requests: BIND, PARK, SET_ADDRESS, SET_BAR_PROFILE, SET_TRIM, SET_LIMITS, QUERY_BAR (chapter 2) and
RECOVER (section 8.5). Each makes its checks in the order of R17 and answers with the first that fails. -/

namespace Sys2Proof.Machine

/-- A request that changes nothing beside the port and answers with a status alone. -/
def State.refuse (s : State) (status : Status) : State × Reply := (s, refusal status)

/-- An accepted request whose response is OK with a body; P follows every change it made (R19, R126). -/
def State.accept (s : State) (body : List Byte) : State × Reply := (s.settle false, okReply body)

/-! ### Binding (R21, R24) -/

/-- The first check that BIND fails (R21), absent where it is accepted. -/
def State.bindFault (s : State) (slot : Nat) : Option Status :=
  if !s.frameWritten then some .noFrame
  else if !s.fittedSlot slot then some .badSlot
  else if (s.bar slot).state ≠ .parked then some .badState
  else if (s.bar slot).address = 0 then some .badState
  else if (s.slotOfAddress (s.bar slot).address).isSome then some .addressTaken
  else none

/-- BIND performed (R21). -/
def State.performBind (slot : Nat) (s : State) : State × Reply :=
  match s.bindFault slot with
  | some status => s.refuse status
  | none => (s.setBarState slot .binding).accept []

/-- BIND (R21). -/
def execBind (slot : Byte) (s : State) : Answer := .next (s.request 1 (State.performBind slot.toNat))

/-- PARK of a bar in BINDING (R24): where the ring is UP an UNBIND is handed first, and takes the place of the attempt's BIND
if that is still queued (R153); then the attempt ends. R158 also has the end of the attempt remove that BIND. DEDUCED, log 34:
the row of R153 governs, and the BIND is gone either way. -/
def State.parkBinding (s : State) (slot : Nat) : State :=
  (if s.ring.state = .up then s.handUnbind (s.bar slot).address else s).setBarState slot .parked

/-- PARK of a bar in IDLE (R24): its outstanding move is discarded and UNBIND is sent. -/
def State.parkIdle (s : State) (slot : Nat) : State :=
  ((s.discardMove slot).setBarState slot .parked).handUnbind (s.bar slot).address

/-- PARK performed (R24). -/
def State.performPark (slot : Nat) (s : State) : State × Reply :=
  if !s.fittedSlot slot then s.refuse .badSlot
  else
    match (s.bar slot).state with
    | .parked => s.accept []
    | .binding => if (s.bar slot).pinned then s.refuse .pinned else (s.parkBinding slot).accept []
    | .idle => if (s.bar slot).pinned then s.refuse .pinned else (s.parkIdle slot).accept []
    | .unfitted | .engaged | .faulted | .rebinding => s.refuse .badState

/-- PARK (R24). -/
def execPark (slot : Byte) (s : State) : Answer := .next (s.request 1 (State.performPark slot.toNat))

/-! ### Fields of a record (R20, R25, R27, R28) -/

/-- SET_ADDRESS performed (R20). -/
def State.performSetAddress (slot address : Nat) (s : State) : State × Reply :=
  if !s.fittedSlot slot then s.refuse .badSlot
  else if 126 < address then s.refuse .badValue
  else if (s.bar slot).state ≠ .parked then s.refuse .badState
  else (s.onBar slot fun b => { b with address }).accept []

/-- SET_ADDRESS (R20). -/
def execSetAddress (slot address : Byte) (s : State) : Answer :=
  .next (s.request 2 (State.performSetAddress slot.toNat address.toNat))

/-- Whether a bar's state lets its profile and its limits be set: PARKED or IDLE (R25, R27). -/
def BarState.isSettable (b : BarState) : Bool :=
  match b with
  | .parked | .idle => true
  | .unfitted | .binding | .engaged | .faulted | .rebinding => false

/-- A record's profile becomes another (R25): an IDLE bar rebinds. -/
def State.changeProfile (s : State) (slot profile : Nat) : State :=
  let t := s.onBar slot fun b => { b with profile }
  if (s.bar slot).state = .idle then t.rebind slot else t

/-- SET_BAR_PROFILE performed (R25). -/
def State.performSetBarProfile (slot profile : Nat) (s : State) : State × Reply :=
  if !s.fittedSlot slot then s.refuse .badSlot
  else if 7 < profile then s.refuse .badValue
  else if !(s.bar slot).state.isSettable then s.refuse .badState
  else if (s.bar slot).pinned then s.refuse .pinned
  else if (s.bar slot).profile = profile then s.accept []
  else (s.changeProfile slot profile).accept []

/-- SET_BAR_PROFILE (R25). -/
def execSetBarProfile (slot profile : Byte) (s : State) : Answer :=
  .next (s.request 2 (State.performSetBarProfile slot.toNat profile.toNat))

/-- SET_TRIM performed (R28): the trim is clamped and carried back as stored. -/
def State.performSetTrim (slot : Nat) (trim : Int) (s : State) : State × Reply :=
  if !s.fittedSlot slot then s.refuse .badSlot
  else
    (s.onBar slot fun b => { b with trim := clampInt (-2000) 2000 trim }).accept (beSigned 2 (clampInt (-2000) 2000 trim))

/-- SET_TRIM (R28). -/
def execSetTrim (slot : Byte) (trim : BitVec 16) (s : State) : Answer :=
  .next (s.request 3 (State.performSetTrim slot.toNat trim.toInt))

/-- A record's limits become others (R27), and with them those of the plan configuration, which are the record's own until an
edit is laid over them (R113); no edit of a committed set names an unpinned bar. -/
def State.changeLimits (s : State) (slot : Nat) (low high : Int) : State :=
  (s.onBar slot fun b => { b with low, high }).onPlan fun p =>
    { p with layout := { p.layout with config := p.layout.config.modify slot fun c => { c with low, high } } }

/-- SET_LIMITS performed (R27). -/
def State.performSetLimits (slot low high : Nat) (s : State) : State × Reply :=
  if !s.fittedSlot slot then s.refuse .badSlot
  else if 511 < low ∨ 511 < high ∨ high < low then s.refuse .badValue
  else if !(s.bar slot).state.isSettable then s.refuse .badState
  else if (s.bar slot).pinned then s.refuse .pinned
  else (s.changeLimits slot low high).accept []

/-- SET_LIMITS (R27). -/
def execSetLimits (slot : Byte) (low high : BitVec 16) (s : State) : Answer :=
  .next (s.request 5 (State.performSetLimits slot.toNat low.toNat high.toNat))

/-! ### The query (R36) -/

/-- QUERY_BAR performed (R36). -/
def State.performQueryBar (slot : Nat) (s : State) : State × Reply :=
  if !s.fittedSlot slot then s.refuse .badSlot else (s, okReply (barBody (s.bar slot)))

/-- QUERY_BAR (R36). -/
def execQueryBar (slot : Byte) (s : State) : Answer := .next (s.request 1 (State.performQueryBar slot.toNat))

/-! ### Recovery (R147) -/

/-- The first check that RECOVER fails (R147), absent where it is accepted. -/
def State.recoverFault (s : State) (slot : Nat) : Option Status :=
  if !s.fittedSlot slot then some .badSlot
  else if (s.bar slot).state ≠ .faulted then some .badState
  else if s.shaft.state ≠ .stopped ∨ s.moves.heldHold ≠ 0 then some .moving
  else if ((s.tracker (s.bar slot).profile).region.window).isSome then some .window
  else none

/-- The target of a recovery: the side position of the tracker's region, from the bar's entry in the held record, clamped
where the record is blocked (R147, R137). Absent only where no rule leaves the part (log 10). -/
def State.recoveryTarget (s : State) (slot : Nat) : Option (Side × Int) :=
  match (s.tracker (s.bar slot).profile).region.side, s.moves.held.entryOf slot with
  | some side, some e => (s.targetOf slot e side).map fun target => (side, target)
  | _, _ => none

/-- A recovery to a target (R147): at once where the bar stands there with no outstanding move, by a MOVE otherwise. The
response carries the target, and the tag where a MOVE was sent. -/
def State.recoverTo (s : State) (slot : Nat) (side : Side) (target : Int) : State × Reply :=
  if (s.bar slot).move.isNone ∧ (s.bar slot).position = target then
    ((s.setBarState slot .engaged).raiseBar .barReady slot).accept (beSigned 2 target ++ optional (beBytes 1) none)
  else
    (s.sendMove slot target side .recovery 0).accept
      (beSigned 2 target ++ optional (beBytes 1) (some (s.nextTag slot)))

/-- RECOVER performed (R147). -/
def State.performRecover (slot : Nat) (s : State) : State × Reply :=
  match s.recoverFault slot, s.recoveryTarget slot with
  | some status, _ => s.refuse status
  | none, some (side, target) => s.recoverTo slot side target
  | none, none => s.refuse .badState

/-- RECOVER (R147). -/
def execRecover (slot : Byte) (s : State) : Answer := .next (s.request 1 (State.performRecover slot.toNat))

end Sys2Proof.Machine
end

