-- ==== Sys2Proof/Machine/ProgramRequests.lean ====
section
/-! DEFINITION. The program requests (R42 to R54): CREATE_PROGRAM, WRITE_STEPS, SEAL_PROGRAM, RETIRE_PROGRAM, QUERY_PROGRAM,
READ_STEPS and QUERY_STORE. -/

namespace Sys2Proof.Machine

/-- The entry a request names, with the first two checks of R42: BAD_VALUE for number 0, NOT_FOUND for a free number. -/
def State.namedProgram (s : State) (n : Nat) : Except Status Program :=
  if n = 0 then .error .badValue
  else
    match s.store.programs.find n with
    | none => .error .notFound
    | some p => .ok p

/-! ### Creation (R43) -/

/-- Pages are taken for a new program of a length, lowest-numbered first, and its entry is created OPEN; the pages hold no
steps until they are written (R43; DESIGN CHOICE, log 11). -/
def PatternStore.create (st : PatternStore) (n length : Nat) : PatternStore :=
  let taken := st.free.take (pagesFor length)
  { free := st.free.drop (pagesFor length)
    programs := st.programs.put n { length, pages := taken, written := 0, sealInfo := none }
    memory := ⟨st.memory.cells.filter fun c => !taken.contains (c.1 / 256)⟩ }

/-- CREATE_PROGRAM performed (R42, R43). -/
def State.performCreate (n length : Nat) (s : State) : State × Reply :=
  if n = 0 then s.refuse .badValue
  else if s.store.programs.has n then s.refuse .exists_
  else if length = 0 ∨ 16384 < length then s.refuse .badValue
  else if s.store.free.length < pagesFor length then s.refuse .noSpace
  else
    (s.onStore (·.create n length),
      okReply (beBytes 1 (pagesFor length) ++ beBytes 2 (s.store.free.length - pagesFor length)))

/-- CREATE_PROGRAM (R43). -/
def execCreateProgram (program : Byte) (length : BitVec 16) (s : State) : Answer :=
  .next (s.request 3 (State.performCreate program.toNat length.toNat))

/-! ### Writing (R44, R45) -/

/-- The steps a request carries, where each is well formed; otherwise the place of the first that is not (R45). -/
def readSteps : List StepBytes → Except Nat (List Step)
  | [] => .ok []
  | b :: rest =>
    match readStep b with
    | none => .error 0
    | some v =>
      match readSteps rest with
      | .ok vs => .ok (v :: vs)
      | .error place => .error (place + 1)

/-- Steps are stored at the index where writing stands, and written rises by their number (R44). -/
def PatternStore.append (st : PatternStore) (n : Nat) (p : Program) (steps : List Step) : PatternStore :=
  let st := st.writeSteps p p.written steps
  { st with programs := st.programs.put n { p with written := p.written + steps.length } }

/-- WRITE_STEPS performed on an entry: the own checks of R44 in order. -/
def State.writeTo (s : State) (n : Nat) (p : Program) (start : Nat) (steps : List StepBytes) : State × Reply :=
  if p.sealInfo.isSome then s.refuse .badState
  else if steps = [] ∨ 32 < steps.length then s.refuse .badValue
  else if start ≠ p.written then (s, { status := .order, body := beBytes 2 p.written })
  else if p.length < start + steps.length then s.refuse .badValue
  else
    match readSteps steps with
    | .error place => (s, { status := .badValue, body := beBytes 2 (start + place) })
    | .ok vs => (s.onStore (·.append n p vs), okReply (beBytes 2 (p.written + vs.length)))

/-- WRITE_STEPS performed (R42, R44). -/
def State.performWriteSteps (n start : Nat) (steps : List StepBytes) (s : State) : State × Reply :=
  match s.namedProgram n with
  | .error status => s.refuse status
  | .ok p => s.writeTo n p start steps

/-- WRITE_STEPS (R44). -/
def execWriteSteps (program : Byte) (start : BitVec 16) (steps : List StepBytes) (s : State) : Answer :=
  .next (s.request (3 + 5 * steps.length) (State.performWriteSteps program.toNat start.toNat steps))

/-! ### Sealing and retiring (R46, R51) -/

/-- SEAL_PROGRAM performed (R42, R46): refused at once, or in flight until the seal ends. -/
def State.performSeal (n : Nat) (s : State) : State × (Reply ⊕ InFlight) :=
  match s.namedProgram n with
  | .error status => (s, .inl (refusal status))
  | .ok p =>
    if p.sealInfo.isSome then (s, .inl (refusal .badState))
    else if p.written ≠ p.length then (s, .inl (refusal .incomplete))
    else (s, .inr (.sealing n))

/-- SEAL_PROGRAM (R46). -/
def execSealProgram (program : Byte) (s : State) : Answer :=
  .next (s.requestLong 1 (State.performSeal program.toNat))

/-- A program leaves the table and its pages return to the free set (R51). -/
def PatternStore.retire (st : PatternStore) (n : Nat) (p : Program) : PatternStore :=
  { st with free := p.pages.foldl (fun free page => insertPage page free) st.free, programs := st.programs.del n }

/-- RETIRE_PROGRAM performed (R42, R51). -/
def State.performRetire (n : Nat) (s : State) : State × Reply :=
  match s.namedProgram n with
  | .error status => s.refuse status
  | .ok p =>
    if p.sealInfo.any (fun i => decide (0 < i.refs)) then s.refuse .referenced
    else
      (s.onStore (·.retire n p), okReply (beBytes 2 (s.store.retire n p).free.length))

/-- RETIRE_PROGRAM (R51). -/
def execRetireProgram (program : Byte) (s : State) : Answer :=
  .next (s.request 1 (State.performRetire program.toNat))

/-! ### Reading and querying (R52 to R54) -/

/-- QUERY_PROGRAM performed (R53). -/
def State.performQueryProgram (n : Nat) (s : State) : State × Reply :=
  match s.namedProgram n with
  | .error status => s.refuse status
  | .ok p => (s, okReply (programBody p))

/-- QUERY_PROGRAM (R53). -/
def execQueryProgram (program : Byte) (s : State) : Answer :=
  .next (s.request 1 (State.performQueryProgram program.toNat))

/-- READ_STEPS performed (R52). -/
def State.performReadSteps (n start count : Nat) (s : State) : State × Reply :=
  match s.namedProgram n with
  | .error status => s.refuse status
  | .ok p =>
    if count = 0 ∨ 32 < count then s.refuse .badValue
    else if p.written < start + count then s.refuse .badValue
    else (s, okReply (listed stepItem ((List.range' start count).filterMap (s.store.readStep p))))

/-- READ_STEPS (R52). -/
def execReadSteps (program : Byte) (start : BitVec 16) (count : Byte) (s : State) : Answer :=
  .next (s.request 4 (State.performReadSteps program.toNat start.toNat count.toNat))

/-- QUERY_STORE performed (R54). -/
def State.performQueryStore (s : State) : State × Reply := (s, okReply (storeBody s.store))

/-- QUERY_STORE (R54). -/
def execQueryStore (s : State) : Answer := .next (s.request 0 State.performQueryStore)

end Sys2Proof.Machine
end

