-- ==== Sys2Proof/Machine/SetRequests.lean ====
section
/-! DEFINITION. The set requests (R78 to R92): OPEN_SET, ADD_EDIT, DROP_EDIT, COMMIT_SET, CANCEL_SET, DISCARD_SET and
QUERY_SET. -/

namespace Sys2Proof.Machine

/-- The edits of a set that must be OPEN, with the first two checks of R78. -/
def State.openEdits (s : State) (n : Nat) : Except Status (KMap Edit) :=
  if 3 < n then .error .badValue
  else
    match s.changeSet n with
    | .opened edits => .ok edits
    | .free => .error .badState
    | .committed _ _ => .error .badState

/-! ### Opening, editing, discarding (R79, R81 to R83) -/

/-- OPEN_SET performed (R79). -/
def State.performOpen (n : Nat) (s : State) : State × Reply :=
  if 3 < n then s.refuse .badValue
  else
    match s.changeSet n with
    | .free => (s.setChangeSet n (.opened ⟨[]⟩), okReply (beBytes 1 n))
    | .opened _ => s.refuse .badState
    | .committed _ _ => s.refuse .badState

/-- OPEN_SET (R79). -/
def execOpenSet (set : Byte) (s : State) : Answer := .next (s.request 1 (State.performOpen set.toNat))

/-- The edits of an OPEN set become others; the response carries their number (R81, R82). -/
def State.editsBecome (s : State) (n : Nat) (edits : KMap Edit) : State × Reply :=
  (s.setChangeSet n (.opened edits), okReply (beBytes 1 edits.cells.length))

/-- ADD_EDIT performed (R81). -/
def State.performAddEdit (n slot : Nat) (b : EditBytes) (s : State) : State × Reply :=
  match s.openEdits n with
  | .error status => s.refuse status
  | .ok edits =>
    if !s.fittedSlot slot then s.refuse .badSlot
    else
      match readEdit b with
      | none => s.refuse .badValue
      | some e => s.editsBecome n (edits.put slot e)

/-- ADD_EDIT (R81). -/
def execAddEdit (set slot : Byte) (edit : EditBytes) (s : State) : Answer :=
  .next (s.request 17 (State.performAddEdit set.toNat slot.toNat edit))

/-- DROP_EDIT performed (R82). -/
def State.performDropEdit (n slot : Nat) (s : State) : State × Reply :=
  match s.openEdits n with
  | .error status => s.refuse status
  | .ok edits =>
    if 63 < slot then s.refuse .badValue
    else if !edits.has slot then s.refuse .notFound
    else s.editsBecome n (edits.del slot)

/-- DROP_EDIT (R82). -/
def execDropEdit (set slot : Byte) (s : State) : Answer :=
  .next (s.request 2 (State.performDropEdit set.toNat slot.toNat))

/-- DISCARD_SET performed (R83). -/
def State.performDiscard (n : Nat) (s : State) : State × Reply :=
  match s.openEdits n with
  | .error status => s.refuse status
  | .ok _ => (s.setChangeSet n .free, okReply [])

/-- DISCARD_SET (R83). -/
def execDiscardSet (set : Byte) (s : State) : Answer := .next (s.request 1 (State.performDiscard set.toNat))

/-! ### Committing (R84 to R89) -/

/-- The timing minimum of a commit of these edits (R87, R88). -/
def State.commitMinimum (s : State) (edits : KMap Edit) : Nat :=
  s.timingMinimum (s.angleAllows (layConfig s.listedConfig edits) edits.has)

/-- The earliest E a commit of these edits would be accepted with (R84, R86). -/
def State.earliestE (s : State) (edits : KMap Edit) : Nat := max s.greatestE (s.commitMinimum edits)

/-- A commit refused for its E, with the earliest E in four bytes (R84; log 21). -/
def State.refuseE (s : State) (status : Status) (edits : KMap Edit) : State × Reply :=
  (s, { status, body := beBytes 4 (s.earliestE edits) })

/-- The accepted commit; the response carries the E taken and the set's place on the commit list (R89). -/
def State.acceptE (s : State) (n : Nat) (edits : KMap Edit) (e : Nat) : State × Reply :=
  (s.commitAt n edits e).accept (beBytes 4 e ++ beBytes 1 (s.changes.commitList.length + 1))

/-- The order and the timing of E (R86 to R88). -/
def State.judgeE (s : State) (n : Nat) (edits : KMap Edit) (e : Nat) : State × Reply :=
  if e = 0 then
    if Config.courseMax < s.commitMinimum edits then s.refuseE .tooLate edits
    else s.acceptE n edits (s.earliestE edits)
  else if e < s.greatestE then s.refuseE .order edits
  else if e < s.commitMinimum edits then s.refuseE .tooLate edits
  else s.acceptE n edits e

/-- COMMIT_SET performed (R84). -/
def State.performCommit (n e : Nat) (s : State) : State × Reply :=
  match s.openEdits n with
  | .error status => s.refuse status
  | .ok edits =>
    if Config.courseMax < e then s.refuse .badValue
    else
      match s.configFault edits with
      | some (status, slot) => (s, { status, body := beBytes 1 slot })
      | none => s.judgeE n edits e

/-- COMMIT_SET (R84). -/
def execCommitSet (set : Byte) (e : BitVec 32) (s : State) : Answer :=
  .next (s.request 5 (State.performCommit set.toNat e.toNat))

/-! ### Cancelling (R90, R91) -/

/-- The configuration of course C + 1: the bar records with every committed set of that E laid over them (R113). -/
def State.nextConfig (s : State) : List BarConfig := (s.advance s.shaft.c s.knitLayout).config

/-- The timing minimum a cancel of a set's E must meet (R90). The followers are those of course C + 1, whose pairs there change
with their lead (R88; DEDUCED, log 15). -/
def State.cancelMinimum (s : State) (n : Nat) : Nat :=
  s.timingMinimum (s.angleAllows s.nextConfig (s.cascadeNames n))

/-- CANCEL_SET performed (R90, R91). -/
def State.performCancel (n : Nat) (s : State) : State × Reply :=
  if 3 < n then s.refuse .badValue
  else
    match s.changeSet n with
    | .free => s.refuse .badState
    | .opened _ => s.refuse .badState
    | .committed _ e =>
      if e < s.cancelMinimum n then (s, { status := .tooLate, body := beBytes 4 e })
      else (s.cancelFrom n).accept (listed (beBytes 1) (s.cascade n))

/-- CANCEL_SET (R90). -/
def execCancelSet (set : Byte) (s : State) : Answer := .next (s.request 1 (State.performCancel set.toNat))

/-! ### Reading (R92) -/

/-- QUERY_SET performed (R92). -/
def State.performQuerySet (n : Nat) (s : State) : State × Reply :=
  if 3 < n then s.refuse .badValue else (s, okReply (setBody s.changes n (s.changeSet n)))

/-- QUERY_SET (R92). -/
def execQuerySet (set : Byte) (s : State) : Answer := .next (s.request 1 (State.performQuerySet set.toNat))

end Sys2Proof.Machine
end

