-- ==== Sys2Proof/Machine/ProfileRequests.lean ====
section
/-! DEFINITION. The profile requests, SET_PROFILE and QUERY_PROFILE (R98 to R103), and the planner requests, SET_SPEED_CAP,
QUERY_MOTION and QUERY_COURSE (R128 to R130). -/

namespace Sys2Proof.Machine

/-! ### Profiles -/

/-- The region tracker of a profile is placed at the present angle, with no crossing (R101). -/
def State.placeTracker (s : State) (n : Nat) : State :=
  s.onTracker n fun t => { t with region := (s.profile n).regionAt s.shaft.angle }

/-- A profile record is replaced, and the change is handed to the records that name it and to its tracker (R101, R26). The
manual orders no two of the records; slot order is a DESIGN CHOICE (log 35), and the BINDs that R26 sends join the send queue
in it. -/
def State.replaceProfile (s : State) (n : Nat) (p : Profile) : State :=
  let t : State := { s with profiles := s.profiles.set n p }
  (slots.foldl (fun t slot => if s.namesProfile slot n then t.profileChanged slot else t) t).placeTracker n

/-- SET_PROFILE performed (R98, R99). -/
def State.performSetProfile (n : Nat) (b : ProfileBytes) (s : State) : State × Reply :=
  if 7 < n then s.refuse .badValue
  else
    match (readProfile b).windowFault, s.profileUser n with
    | some place, _ => (s, { status := .badValue, body := beBytes 1 place })
    | none, some slot => (s, { status := .inUse, body := beBytes 1 slot })
    | none, none => (s.replaceProfile n (readProfile b)).accept (profileItem (readProfile b))

/-- SET_PROFILE (R98). -/
def execSetProfile (profile : Byte) (record : ProfileBytes) (s : State) : Answer :=
  .next (s.request 16 (State.performSetProfile profile.toNat record))

/-- QUERY_PROFILE performed (R103). -/
def State.performQueryProfile (n : Nat) (s : State) : State × Reply :=
  if 7 < n then s.refuse .badValue else (s, okReply (s.profileBody n))

/-- QUERY_PROFILE (R103). -/
def execQueryProfile (profile : Byte) (s : State) : Answer := .next (s.request 1 (State.performQueryProfile profile.toNat))

/-! ### The speed cap and the motion queries -/

/-- SET_SPEED_CAP performed (R128): at most S_max. -/
def State.performSetSpeedCap (speed : Nat) (s : State) : State × Reply :=
  if s.frameWritten then
    (s.onPlan fun p => { p with sCap := min speed s.sMax }).accept (beBytes 2 (min speed s.sMax))
  else s.refuse .noFrame

/-- SET_SPEED_CAP (R128). -/
def execSetSpeedCap (speed : BitVec 16) (s : State) : Answer := .next (s.request 2 (State.performSetSpeedCap speed.toNat))

/-- QUERY_MOTION performed (R129). -/
def State.performQueryMotion (s : State) : State × Reply := (s, okReply s.motionBody)

/-- QUERY_MOTION (R129). -/
def execQueryMotion (s : State) : Answer := .next (s.request 0 State.performQueryMotion)

/-- The record of a course in C..H (R112, R130): the current record, or one of the queue. -/
def State.recordOf (s : State) (k : Nat) : Option CourseRecord :=
  if s.shaft.c ≤ k ∧ k ≤ s.plan.horizon then s.plan.records.find? (fun r => r.course == k) else none

/-- QUERY_COURSE performed (R130). -/
def State.performQueryCourse (k firstSlot : Nat) (s : State) : State × Reply :=
  if 63 < firstSlot then s.refuse .badValue
  else
    match s.recordOf k with
    | none => s.refuse .notFound
    | some r => (s, okReply (courseBody r firstSlot))

/-- QUERY_COURSE (R130). -/
def execQueryCourse (course : BitVec 32) (firstSlot : Byte) (s : State) : Answer :=
  .next (s.request 5 (State.performQueryCourse course.toNat firstSlot.toNat))

end Sys2Proof.Machine
end

