-- ==== Sys2Proof/Machine/AlertRequests.lean ====
section
/-! DEFINITION. The ring requests, RETRAIN and QUERY_RING (R162, R163), and the alert requests, QUERY_ALERTS, ACK_ALERT,
SET_ALERT_LEVEL, SET_STOP_THRESHOLD and CLEAR_HALT (chapter 10). -/

namespace Sys2Proof.Machine

/-! ### The ring -/

/-- The ring goes back to training (R162). -/
def State.retrainRing (s : State) : State :=
  match s.ring.state with
  | .up => s.ringLeavesUp
  | .training => s.onRing fun r => { r with markerRun := 0 }
  | .down => s

/-- RETRAIN performed (R162); the response carries the ring state after it. -/
def State.performRetrain (s : State) : State × Reply :=
  if s.frameWritten then s.retrainRing.accept [s.retrainRing.ring.state.place] else s.refuse .noFrame

/-- RETRAIN (R162). -/
def execRetrain (s : State) : Answer := .next (s.request 0 State.performRetrain)

/-- QUERY_RING performed (R163). -/
def State.performQueryRing (s : State) : State × Reply := (s, okReply (ringBody s.ring))

/-- QUERY_RING (R163). -/
def execQueryRing (s : State) : Answer := .next (s.request 0 State.performQueryRing)

/-! ### Alerts -/

/-- QUERY_ALERTS performed (R174). -/
def State.performQueryAlerts (s : State) : State × Reply := (s, okReply (alertsBody s.alerts))

/-- QUERY_ALERTS (R174). -/
def execQueryAlerts (s : State) : Answer := .next (s.request 0 State.performQueryAlerts)

/-- ACK_ALERT performed (R175): the response carries the record as it stood, which is then cleared. -/
def State.performAck (kind : Nat) (s : State) : State × Reply :=
  if 15 < kind then s.refuse .badValue
  else
    (s.onAlerts fun u => { u with records := u.records.set kind clearAlert }.recompute).accept
      (alertItem (s.alerts.record kind))

/-- ACK_ALERT (R175). -/
def execAckAlert (kind : Byte) (s : State) : Answer := .next (s.request 1 (State.performAck kind.toNat))

/-- SET_ALERT_LEVEL performed (R168). -/
def State.performSetLevel (kind level : Nat) (s : State) : State × Reply :=
  if 15 < kind ∨ kind = 0 then s.refuse .badValue
  else
    (s.onAlerts fun u => { u with levels := u.levels.set kind (clampNat 1 15 level) }.recompute).accept
      (beBytes 1 (clampNat 1 15 level))

/-- SET_ALERT_LEVEL (R168). -/
def execSetAlertLevel (kind level : Byte) (s : State) : Answer :=
  .next (s.request 2 (State.performSetLevel kind.toNat level.toNat))

/-- The Alert Unit with its stop line alone recomputed (R171). -/
def AlertUnit.recomputeStop (u : AlertUnit) : AlertUnit := { u with stop := u.stopDue }

/-- SET_STOP_THRESHOLD performed (R169): the attention line does not change. -/
def State.performSetThreshold (threshold : Nat) (s : State) : State × Reply :=
  (s.onAlerts fun u => { u with threshold := clampNat 1 15 threshold }.recomputeStop).accept
    (beBytes 1 (clampNat 1 15 threshold))

/-- SET_STOP_THRESHOLD (R169). -/
def execSetStopThreshold (threshold : Byte) (s : State) : Answer :=
  .next (s.request 1 (State.performSetThreshold threshold.toNat))

/-- The Alert Unit with the halt latch clear (R173). -/
def AlertUnit.clearHalt (u : AlertUnit) : AlertUnit := { u with haltLatch := false }.recomputeStop

/-- CLEAR_HALT performed (R173); the response carries the latch and the stop line as they stand after it. -/
def State.performClearHalt (s : State) : State × Reply :=
  if s.alerts.emergencyActive then s.refuse .inputActive
  else (s.onAlerts (·.clearHalt)).accept (lineByte s.alerts.clearHalt.haltLatch ++ lineByte s.alerts.clearHalt.stop)

/-- CLEAR_HALT (R173). -/
def execClearHalt (s : State) : Answer := .next (s.request 0 State.performClearHalt)

end Sys2Proof.Machine
end

