-- ==== Sys2Proof/Machine/FrameRequests.lean ====
section
/-! DEFINITION. The frame requests, SET_FRAME and QUERY_FRAME (R177 to R180), and the piece requests, SET_PIECE_LENGTH,
START_PIECES, PAUSE_PIECES, CLEAR_PIECES and QUERY_PIECES (R182). -/

namespace Sys2Proof.Machine

/-! ### Frame constants -/

/-- Each slot of the fitted set becomes PARKED, with every field at its cold value (R18). -/
def fitBars (fitted : BitVec 64) (bars : List Bar) : List Bar :=
  bars.mapIdx fun slot b => if fitted.getLsbD slot then { coldBar with state := .parked } else b

/-- The acceptance of SET_FRAME, in one act, in which planning begins (R177, R178). -/
def State.writeFrame (s : State) (f : FrameConstants) : State :=
  let t : State := { s with frame := some f, bars := fitBars f.fitted s.bars }
  t.ringTrains.buildCurrent.copyFromKnit.beginPlanning

/-- SET_FRAME performed (R177). -/
def State.performSetFrame (b : FrameBytes) (s : State) : State × Reply :=
  match s.frame with
  | some f => (s, { status := .writtenOnce, body := frameItem f })
  | none =>
    if b.gauge.toNat < 5 ∨ 40 < b.gauge.toNat then s.refuse .badValue
    else (s.writeFrame (readFrame b)).accept (frameItem (readFrame b))

/-- SET_FRAME (R177). -/
def execSetFrame (frame : FrameBytes) (s : State) : Answer := .next (s.request 14 (State.performSetFrame frame))

/-- QUERY_FRAME performed (R180). -/
def State.performQueryFrame (s : State) : State × Reply := (s, okReply (frameBody s.frame))

/-- QUERY_FRAME (R180). -/
def execQueryFrame (s : State) : Answer := .next (s.request 0 State.performQueryFrame)

/-! ### Pieces -/

/-- The piece counter becomes another; the response carries it as it stands after the request (R182). -/
def State.piecesBecome (s : State) (p : PieceCounter) : State × Reply := (s.onPieces fun _ => p, okReply (piecesBody p))

/-- The piece counter with a length set (R182). -/
def PieceCounter.setLength (p : PieceCounter) (length : Nat) : PieceCounter :=
  match p.state with
  | .paused => { p with preload := clampNat 1 1000000 length, count := clampNat 1 1000000 length }
  | .counting => { p with preload := clampNat 1 1000000 length }

/-- SET_PIECE_LENGTH performed (R182). -/
def State.performSetPieceLength (length : Nat) (s : State) : State × Reply := s.piecesBecome (s.pieces.setLength length)

/-- SET_PIECE_LENGTH (R182). -/
def execSetPieceLength (length : BitVec 32) (s : State) : Answer :=
  .next (s.request 4 (State.performSetPieceLength length.toNat))

/-- START_PIECES performed (R182). -/
def State.performStartPieces (s : State) : State × Reply := s.piecesBecome { s.pieces with state := .counting }

/-- START_PIECES (R182). -/
def execStartPieces (s : State) : Answer := .next (s.request 0 State.performStartPieces)

/-- PAUSE_PIECES performed (R182). -/
def State.performPausePieces (s : State) : State × Reply := s.piecesBecome { s.pieces with state := .paused }

/-- PAUSE_PIECES (R182). -/
def execPausePieces (s : State) : Answer := .next (s.request 0 State.performPausePieces)

/-- CLEAR_PIECES performed (R182). -/
def State.performClearPieces (s : State) : State × Reply :=
  s.piecesBecome { s.pieces with pieces := 0, count := s.pieces.preload }

/-- CLEAR_PIECES (R182). -/
def execClearPieces (s : State) : Answer := .next (s.request 0 State.performClearPieces)

/-- QUERY_PIECES performed (R182). -/
def State.performQueryPieces (s : State) : State × Reply := (s, okReply (piecesBody s.pieces))

/-- QUERY_PIECES (R182). -/
def execQueryPieces (s : State) : Answer := .next (s.request 0 State.performQueryPieces)

end Sys2Proof.Machine
end

