-- ==== Sys2Proof/Machine/Resets.lean ====
section
/-! DEFINITION. The resets and QUERY_STATUS (section 12.2): RESTART and the completion of the warm reset it performs, and the
cold reset. -/

namespace Sys2Proof.Machine

/-! ### The warm reset, block by block (R189) -/

/-- The Alert Unit at a warm reset (R176): every record is cleared and the lines recomputed. -/
def AlertUnit.warm (u : AlertUnit) : AlertUnit :=
  { u with records := List.replicate Config.alertCount clearAlert }.recompute

/-- The Shaft Tracker at a warm reset (R16). -/
def Shaft.warm (t : Shaft) : Shaft := { t with state := .stopped, stall := 500000, runStart := none, period := none }

/-- A bar record at a warm reset (R38). -/
def Bar.warm (b : Bar) : Bar :=
  { b with state := b.state.unlinked, move := none, pinned := false, leadInLate := false }

/-- The Course Planner's queue, horizon and cap at a warm reset (R132). -/
def State.warmPlan (s : State) : State := s.emptyPlan.onPlan fun p => { p with sCap := 0, suspended := false }

/-- The Drive Ring Controller at a warm reset (R165); the idle timer, which the rule does not name, is kept (DEDUCED, log 27). -/
def Ring.warm (r : Ring) : Ring := { r with transit := [], queue := [], markerRun := 0, losses := 0, attempts := ⟨[]⟩ }

/-- The ring at a warm reset (R165): it trains where the frame is written, and stays DOWN where it is not. -/
def State.warmRing (s : State) : State :=
  let t := s.onRing (·.warm)
  if s.frameWritten then t.ringTrains else t.onRing fun r => { r with state := .down }

/-- Every bar left in BINDING or REBINDING starts a binding attempt afresh (R38). -/
def State.startAttempts (s : State) : State :=
  slots.foldl (fun t slot => if (s.bar slot).state.isBinding then t.startAttempt slot else t) s

/-- The current course record and the plan state are made anew from the knit cursors, and the record becomes the held record
(R132, R149). BLOCKED_ENTRY is not among what the reset raises (log 8). -/
def State.warmRecords (s : State) : State :=
  let r := s.builtRecord
  (((s.raiseBlocked r).onPlan fun p => { p with current := r }).copyFromKnit).onMoves fun m =>
    { m with held := r, nextRecord := none, heldHold := s.shaft.hold, starts := List.replicate Config.slotCount none }

/-- The warm reset (R189): each block by its own rule, the alert records first (R176, log 19). -/
def State.warmReset (s : State) : State :=
  let t := (s.onAlerts (·.warm)).onShaft (·.warm)
  let t := (t.onChanges fun _ => coldSets).warmPlan.warmRing
  let t := ({ t with bars := t.bars.map Bar.warm } : State).startAttempts
  (t.recountRefs.placeTrackers.warmRecords).settle false

/-! ### RESTART and its completion (R189) -/

/-- RESTART performed (R189): the blocks take the warm reset and the reset kind becomes WARM; the request stays in flight. -/
def State.performRestart (s : State) : State × (Reply ⊕ InFlight) :=
  (s.warmReset.onPort fun p => { p with resetKind := .warm }, .inr .restart)

/-- RESTART (R189). -/
def execRestart (s : State) : Answer := .next (s.requestLong 0 State.performRestart)

/-- WARM_RESET_COMPLETE (R189, R172, R127): the emergency input is taken as it stands, a speed message is wanted, and the held
response is OK with the reset kind. It is no event where no warm reset is in flight (log 3). -/
def execWarmResetComplete (emergencyActive : Bool) (s : State) : Answer :=
  if s.port.inFlight = some .restart then
    .next
      (((s.onAlerts fun u => { u with emergencyActive }).wantSend).hold (okReply [s.port.resetKind.place]))
  else .next s

/-! ### The cold reset (R188) -/

/-- Whether a cause begins a cold reset (R188): power-on, or the reset input held for at least 10 µs. -/
def resetBegins (c : ResetCause) : Bool :=
  match c with
  | .powerOn => true
  | .resetInput heldMicros => decide (10 ≤ heldMicros)

/-- COLD_RESET (R188), whole from its beginning to its end; the commands that wait are the environment's and stay queued. -/
def execColdReset (cause : ResetCause) (levelA levelB emergencyActive : Bool) (s : State) : Answer :=
  if resetBegins cause then .next { coldState levelA levelB emergencyActive with pending := s.pending } else .next s

/-! ### QUERY_STATUS (R190) -/

/-- QUERY_STATUS performed (R190). -/
def State.performQueryStatus (s : State) : State × Reply := (s, okReply s.statusBody)

/-- QUERY_STATUS (R190). -/
def execQueryStatus (s : State) : Answer := .next (s.request 0 State.performQueryStatus)

end Sys2Proof.Machine
end

