-- ==== Sys2Proof/Machine/PortEvents.lean ====
section
/-! DEFINITION. The transactions of the pattern port that are no accepted request: READ, BUSY and UNKNOWN (R184 to R187). -/

namespace Sys2Proof.Machine

/-- READ of some bytes (R187). -/
def execRead (places : Nat) (s : State) : Answer := .next (s.readTransaction places)

/-- BUSY (R185): a request transaction that began while the port was PERFORMING is refused, whatever the port does now
(log 14). Where no whole byte was shifted in, nothing happens (R184). -/
def execBusy (message : List Byte) (s : State) : Answer :=
  match message with
  | [] => .next s
  | _ :: _ => .next (s.refuseBusy message.length)

/-- A request message with an answer of the port's own is taken (R186). -/
def State.answerAtOnce (s : State) (n : Nat) (status : Status) : State :=
  if s.port.performing then s.refuseBusy n else (s.takeRequest n).hold (refusal status)

/-- What a request does, by the meaning of its row; a command that is no request does nothing. -/
def performRequest (i : Instr) (s : State) : Answer :=
  match i with
  | .bind slot => execBind slot s
  | .park slot => execPark slot s
  | .setAddress slot address => execSetAddress slot address s
  | .setBarProfile slot profile => execSetBarProfile slot profile s
  | .setTrim slot trim => execSetTrim slot trim s
  | .setLimits slot low high => execSetLimits slot low high s
  | .queryBar slot => execQueryBar slot s
  | .recover slot => execRecover slot s
  | .createProgram program length => execCreateProgram program length s
  | .writeSteps program start steps => execWriteSteps program start steps s
  | .sealProgram program => execSealProgram program s
  | .retireProgram program => execRetireProgram program s
  | .queryProgram program => execQueryProgram program s
  | .readSteps program start count => execReadSteps program start count s
  | .queryStore => execQueryStore s
  | .openSet set => execOpenSet set s
  | .addEdit set slot edit => execAddEdit set slot edit s
  | .dropEdit set slot => execDropEdit set slot s
  | .commitSet set e => execCommitSet set e s
  | .cancelSet set => execCancelSet set s
  | .discardSet set => execDiscardSet set s
  | .querySet set => execQuerySet set s
  | .setProfile profile record => execSetProfile profile record s
  | .queryProfile profile => execQueryProfile profile s
  | .setSpeedCap speed => execSetSpeedCap speed s
  | .queryMotion => execQueryMotion s
  | .queryCourse course firstSlot => execQueryCourse course firstSlot s
  | .retrain => execRetrain s
  | .queryRing => execQueryRing s
  | .queryAlerts => execQueryAlerts s
  | .ackAlert kind => execAckAlert kind s
  | .setAlertLevel kind level => execSetAlertLevel kind level s
  | .setStopThreshold threshold => execSetStopThreshold threshold s
  | .clearHalt => execClearHalt s
  | .setFrame frame => execSetFrame frame s
  | .queryFrame => execQueryFrame s
  | .setPieceLength length => execSetPieceLength length s
  | .startPieces => execStartPieces s
  | .pausePieces => execPausePieces s
  | .clearPieces => execClearPieces s
  | .queryPieces => execQueryPieces s
  | .restart => execRestart s
  | .queryStatus => execQueryStatus s
  | .ordinaryStep _ | .skippedCount | .indexWithoutStep _ | .forwardCourseEntry _ | .reverseCourseEntry
  | .stallTimerExpiry | .emergencyInputActive | .emergencyInputInactive | .speedMessageEnd | .planningStart | .planningEnd
  | .frameSend | .markerReturn _ | .markerLost | .partFrameReturn _ | .frameDeclaredLost | .idleTimerExpiry
  | .retryExpiry _ | .bindAck _ | .done _ | .fault _ | .sealEnd | .read _ | .busy _ | .unknown _ | .warmResetComplete _
  | .coldReset _ _ _ _ => .next s

/-- UNKNOWN: the bytes shifted in during one transaction, taken as R184 and R186 say (log 13). -/
def execUnknown (message : List Byte) (s : State) : Answer :=
  match parseMessage message with
  | .ignored => .next s
  | .readTransaction places => .next (s.readTransaction places)
  | .unknownCode => .next (s.answerAtOnce message.length .unknown)
  | .badLength => .next (s.answerAtOnce message.length .badLength)
  | .request i => performRequest i s

end Sys2Proof.Machine
end

