-- ==== Sys2Proof/Machine/Ticks.lean ====
section
/-! DEFINITION. What the part's own clock brings when no command waits (log 1): one microsecond passes, and the events that are
then due join the queue. -/

namespace Sys2Proof.Machine

/-- An event, where it is due. -/
def dueIf (due : Bool) (i : Instr) : List Instr := if due then [i] else []

/-- Whether a transit entry has stood for 1000 µs (R151, R152). -/
def State.overdue (s : State) (t : Transit) : Bool := decide (t.sentAt + 1000 ≤ s.now)

/-- A loss for every transit entry that has stood for 1000 µs: of a marker in TRAINING, of a frame in UP (R151, R152). -/
def State.dueLosses (s : State) : List Instr :=
  let lost := s.ring.transit.filter s.overdue
  match s.ring.state with
  | .down => []
  | .training => lost.map fun _ => .markerLost
  | .up => lost.map fun _ => .frameDeclaredLost

/-- The slots whose retry timer has reached its limit, in slot order (R158). -/
def State.dueRetries (s : State) : List Nat :=
  (s.ring.attempts.cells.filter fun ka => ka.2.timer == some 100000).map (·.1)

/-- The events that are due, in the order the model gives them (DESIGN CHOICE, log 1). -/
def State.dueEvents (s : State) : List Instr :=
  dueIf (decide (s.shaft.state ≠ .stopped) && s.shaft.stall == 500000) .stallTimerExpiry
    ++ s.dueLosses
    ++ dueIf (decide (s.ring.state = .up) && s.ring.idle == 10000 && !s.ring.queue.any (·.isMarker)) .idleTimerExpiry
    ++ s.dueRetries.map .retryExpiry
    ++ dueIf s.planningDue .planningStart
    ++ dueIf s.sendDue .frameSend

/-- One microsecond of the part's clock with nothing waiting (log 1). -/
def State.tick (s : State) : State :=
  let t := s.passTime 1
  { t with pending := t.dueEvents }

end Sys2Proof.Machine
end

