-- ==== Sys2Proof/Machine/Dispatch.lean ====
section
/-! DEFINITION. One arm for each command of the table, each a direct call of that command's meaning. -/

namespace Sys2Proof.Machine

def exec (i : Instr) (s : State) : Host.Outcome State Fault Refusal :=
  match i with
  | .ordinaryStep channel => Sys2Proof.Machine.execOrdinaryStep channel s
  | .skippedCount => Sys2Proof.Machine.execSkippedCount s
  | .indexWithoutStep withSkippedCount => Sys2Proof.Machine.execIndexWithoutStep withSkippedCount s
  | .forwardCourseEntry time => Sys2Proof.Machine.execForwardCourseEntry time s
  | .reverseCourseEntry => Sys2Proof.Machine.execReverseCourseEntry s
  | .stallTimerExpiry => Sys2Proof.Machine.execStallTimerExpiry s
  | .emergencyInputActive => Sys2Proof.Machine.execEmergencyInputActive s
  | .emergencyInputInactive => Sys2Proof.Machine.execEmergencyInputInactive s
  | .speedMessageEnd => Sys2Proof.Machine.execSpeedMessageEnd s
  | .planningStart => Sys2Proof.Machine.execPlanningStart s
  | .planningEnd => Sys2Proof.Machine.execPlanningEnd s
  | .frameSend => Sys2Proof.Machine.execFrameSend s
  | .markerReturn bytes => Sys2Proof.Machine.execMarkerReturn bytes s
  | .markerLost => Sys2Proof.Machine.execMarkerLost s
  | .partFrameReturn bytes => Sys2Proof.Machine.execPartFrameReturn bytes s
  | .frameDeclaredLost => Sys2Proof.Machine.execFrameDeclaredLost s
  | .idleTimerExpiry => Sys2Proof.Machine.execIdleTimerExpiry s
  | .retryExpiry slot => Sys2Proof.Machine.execRetryExpiry slot s
  | .bindAck bytes => Sys2Proof.Machine.execBindAck bytes s
  | .done bytes => Sys2Proof.Machine.execDone bytes s
  | .fault bytes => Sys2Proof.Machine.execFault bytes s
  | .sealEnd => Sys2Proof.Machine.execSealEnd s
  | .read places => Sys2Proof.Machine.execRead places s
  | .busy message => Sys2Proof.Machine.execBusy message s
  | .unknown message => Sys2Proof.Machine.execUnknown message s
  | .bind slot => Sys2Proof.Machine.execBind slot s
  | .park slot => Sys2Proof.Machine.execPark slot s
  | .setAddress slot address => Sys2Proof.Machine.execSetAddress slot address s
  | .setBarProfile slot profile => Sys2Proof.Machine.execSetBarProfile slot profile s
  | .setTrim slot trim => Sys2Proof.Machine.execSetTrim slot trim s
  | .setLimits slot low high => Sys2Proof.Machine.execSetLimits slot low high s
  | .queryBar slot => Sys2Proof.Machine.execQueryBar slot s
  | .recover slot => Sys2Proof.Machine.execRecover slot s
  | .createProgram program length => Sys2Proof.Machine.execCreateProgram program length s
  | .writeSteps program start steps => Sys2Proof.Machine.execWriteSteps program start steps s
  | .sealProgram program => Sys2Proof.Machine.execSealProgram program s
  | .retireProgram program => Sys2Proof.Machine.execRetireProgram program s
  | .queryProgram program => Sys2Proof.Machine.execQueryProgram program s
  | .readSteps program start count => Sys2Proof.Machine.execReadSteps program start count s
  | .queryStore => Sys2Proof.Machine.execQueryStore s
  | .openSet set => Sys2Proof.Machine.execOpenSet set s
  | .addEdit set slot edit => Sys2Proof.Machine.execAddEdit set slot edit s
  | .dropEdit set slot => Sys2Proof.Machine.execDropEdit set slot s
  | .commitSet set e => Sys2Proof.Machine.execCommitSet set e s
  | .cancelSet set => Sys2Proof.Machine.execCancelSet set s
  | .discardSet set => Sys2Proof.Machine.execDiscardSet set s
  | .querySet set => Sys2Proof.Machine.execQuerySet set s
  | .setProfile profile record => Sys2Proof.Machine.execSetProfile profile record s
  | .queryProfile profile => Sys2Proof.Machine.execQueryProfile profile s
  | .setSpeedCap speed => Sys2Proof.Machine.execSetSpeedCap speed s
  | .queryMotion => Sys2Proof.Machine.execQueryMotion s
  | .queryCourse course firstSlot => Sys2Proof.Machine.execQueryCourse course firstSlot s
  | .retrain => Sys2Proof.Machine.execRetrain s
  | .queryRing => Sys2Proof.Machine.execQueryRing s
  | .queryAlerts => Sys2Proof.Machine.execQueryAlerts s
  | .ackAlert kind => Sys2Proof.Machine.execAckAlert kind s
  | .setAlertLevel kind level => Sys2Proof.Machine.execSetAlertLevel kind level s
  | .setStopThreshold threshold => Sys2Proof.Machine.execSetStopThreshold threshold s
  | .clearHalt => Sys2Proof.Machine.execClearHalt s
  | .setFrame frame => Sys2Proof.Machine.execSetFrame frame s
  | .queryFrame => Sys2Proof.Machine.execQueryFrame s
  | .setPieceLength length => Sys2Proof.Machine.execSetPieceLength length s
  | .startPieces => Sys2Proof.Machine.execStartPieces s
  | .pausePieces => Sys2Proof.Machine.execPausePieces s
  | .clearPieces => Sys2Proof.Machine.execClearPieces s
  | .queryPieces => Sys2Proof.Machine.execQueryPieces s
  | .restart => Sys2Proof.Machine.execRestart s
  | .warmResetComplete emergencyActive => Sys2Proof.Machine.execWarmResetComplete emergencyActive s
  | .queryStatus => Sys2Proof.Machine.execQueryStatus s
  | .coldReset cause levelA levelB emergencyActive => Sys2Proof.Machine.execColdReset cause levelA levelB emergencyActive s

end Sys2Proof.Machine
end

