-- ==== Sys2Proof/Machine/Step.lean ====
section
/-! DEFINITION. One step of the part: the command at the front of the queue, or one microsecond of the part's clock. -/

namespace Sys2Proof.Machine

/-- One step: the command at the front of the queue runs on the state with the rest of the queue; on an empty queue the
part's clock ticks (log 1). -/
def step (s : State) : Host.Outcome State Fault Refusal :=
  match s.pending with
  | i :: rest => exec i { s with pending := rest }
  | [] => .next s.tick

/-- The state with the command a word spells put at the front of its queue; unchanged where the word spells none (log 32). -/
def State.withFetchWord (s : State) (nbits w : Nat) : State :=
  match decodeTableWord nbits w with
  | some i => { s with pending := i :: s.pending }
  | none => s

end Sys2Proof.Machine
end

