-- ==== Sys2Proof/Safety.lean ====
section
/-! DEFINITION. What counts as a safe state of the part: the laws of the device that the manual states, each over the whole
state, in the terms the statements use; and the port as an answered request leaves it. -/

namespace Sys2Proof.Machine

/-! ### Laws -/

/-- The attention line and the stop line are what R170 and R171 say of the records, levels, threshold and halt latch. -/
abbrev State.linesLaw (s : State) : Prop :=
  s.alerts.attention = s.alerts.attentionDue ∧ s.alerts.stop = s.alerts.stopDue

/-- P is the permitted speed of R126 (0 while the frame is unwritten, R179). -/
abbrev State.speedLaw (s : State) : Prop := s.plan.p = s.permittedSpeed

/-- C is never below the reverse floor (R94). -/
abbrev State.floorLaw (s : State) : Prop := s.plan.floor ≤ s.shaft.c

/-- No two bars outside PARKED and UNFITTED hold the same drive address (R21). -/
abbrev State.addressLaw (s : State) : Prop :=
  s.bars.Pairwise fun a b => ¬(a.state.isBoundSide = true ∧ b.state.isBoundSide = true ∧ a.address = b.address)

/-- The states in which a bar's drive is bound (chapter 2, table of states). -/
def BarState.isBound : BarState → Bool
  | .idle | .engaged | .faulted => true
  | .unfitted | .parked | .binding | .rebinding => false

/-- The ring is DOWN exactly while the frame is unwritten (R150); while it is, every slot is UNFITTED (R179); and a bar stands
in IDLE, ENGAGED or FAULTED only while the ring is UP (R34). -/
abbrev State.linkLaw (s : State) : Prop :=
  (s.frame = none ↔ s.ring.state = .down)
    ∧ (s.frame = none → ∀ b ∈ s.bars, b.state = .unfitted)
    ∧ ∀ b ∈ s.bars, b.state.isBound = true → s.ring.state = .up

/-- The plan queue holds complete records for exactly the courses C + 1 to H, at most 32 of them, and the current record is
that of C (R112); suspended says that the shaft state is REVERSE, and then nothing is planned (R124); a planning in flight has
room for its record (R115). -/
abbrev State.planLaw (s : State) : Prop :=
  s.plan.current.course = s.shaft.c
    ∧ s.plan.queue.map (·.course) = List.range' (s.shaft.c + 1) s.plan.queue.length
    ∧ s.plan.horizon = s.shaft.c + s.plan.queue.length
    ∧ s.plan.queue.length ≤ 32
    ∧ s.plan.horizon ≤ Config.courseMax
    ∧ (s.plan.suspended = true ↔ s.shaft.state = .reverse)
    ∧ (s.plan.suspended = true → s.plan.queue = [] ∧ s.plan.planning = false)
    ∧ (s.plan.planning = true → s.plan.queue.length < 32 ∧ s.plan.horizon < Config.courseMax)

/-- The held record is the current course record, no next record waits and the held hold count is the hold count: between two
steps the Move Unit acts on what the planner and the Shaft Tracker hold (R136, R142). -/
abbrev State.heldLaw (s : State) : Prop :=
  s.moves.held = s.plan.current ∧ s.moves.nextRecord = none ∧ s.moves.heldHold = s.shaft.hold

/-- The commit list names COMMITTED sets alone, each once and every one of them (R77); each has an effective course greater
than C, and in commit order those courses do not decrease (R86). -/
abbrev State.commitLaw (s : State) : Prop :=
  s.changes.commitList.Nodup
    ∧ (∀ n ∈ s.changes.commitList, n < s.changes.sets.length ∧ (s.changeSet n).appliesAt (s.effectiveCourse n) = true)
    ∧ (∀ n ∈ List.range s.changes.sets.length,
        (s.changeSet n).appliesAt (s.effectiveCourse n) = true → n ∈ s.changes.commitList)
    ∧ (∀ n ∈ s.changes.commitList, s.shaft.c < s.effectiveCourse n)
    ∧ (s.changes.commitList.map s.effectiveCourse).Pairwise (· ≤ ·)

/-- Each of the 512 pages stands either once in the free set, which rises, or once in the page list of one program (R39), and
the tables of the Pattern Store are in their canonical form. -/
abbrev State.storeLaw (s : State) : Prop :=
  (s.store.free ++ s.store.programs.cells.flatMap fun c => c.2.pages).Perm (List.range Config.pageCount)
    ∧ s.store.free.Pairwise (· < ·)
    ∧ s.store.programs.wf = true
    ∧ s.store.memory.wf = true

/-- The sizes of the tables: 64 bars, next tags and start points, 8 profiles and trackers, 4 sets, 16 alert records and levels. -/
abbrev State.sizesLaw (s : State) : Prop :=
  s.bars.length = 64 ∧ s.moves.nextTags.length = 64 ∧ s.moves.starts.length = 64 ∧ s.profiles.length = 8 ∧ s.moves.trackers.length = 8
    ∧ s.changes.sets.length = 4 ∧ s.alerts.records.length = 16 ∧ s.alerts.levels.length = 16

/-- The windows of every profile satisfy the five conditions of R97. -/
abbrev State.windowsLaw (s : State) : Prop := ∀ p ∈ s.profiles, p.windowFault = none

/-- The angle lies in 0..1023 (R2); every region tracker names the region in which it lies under its profile's windows (R133),
and while the shaft state is FORWARD or REVERSE its heading is that direction (R134). -/
abbrev State.trackersLaw (s : State) : Prop :=
  s.shaft.angle ≤ 1023
    ∧ ∀ n ∈ profileNumbers,
        (s.tracker n).region = (s.profile n).regionAt s.shaft.angle
          ∧ (s.shaft.state = .forward → (s.tracker n).heading = .forward)
          ∧ (s.shaft.state = .reverse → (s.tracker n).heading = .reverse)

/-- The values each bar record may hold: the ranges of the table of chapter 2 with low at most high (R27, R85), and the target
of its outstanding move in 0..511 and its tag in 0..15. -/
abbrev Bar.inRange (b : Bar) : Prop :=
  b.address ≤ 126 ∧ b.profile ≤ 7 ∧ -2000 ≤ b.trim ∧ b.trim ≤ 2000 ∧ 0 ≤ b.low ∧ b.low ≤ b.high ∧ b.high ≤ 511
    ∧ 0 ≤ b.position ∧ b.position ≤ 511 ∧ b.driveFault ≤ 255
    ∧ ∀ m ∈ b.move, 0 ≤ m.target ∧ m.target ≤ 511 ∧ m.tag ≤ 15

/-- Every position of a course record that is not blocked lies in 0..511 (R117). -/
abbrev CourseRecord.inTravel (r : CourseRecord) : Prop :=
  r.cause = .none →
    ∀ e ∈ r.entries, 0 ≤ e.u ∧ e.u ≤ 511 ∧ ∀ ab ∈ e.pair, 0 ≤ ab.1 ∧ ab.1 ≤ 511 ∧ 0 ≤ ab.2 ∧ ab.2 ≤ 511

/-- The edits of a change set; none of a FREE one (R77). -/
def ChangeSet.edits : ChangeSet → KMap Edit
  | .free => ⟨[]⟩
  | .opened edits => edits
  | .committed edits _ => edits

/-- Whether a change set is COMMITTED (R77). -/
def ChangeSet.isCommitted : ChangeSet → Bool
  | .free => false
  | .opened _ => false
  | .committed _ _ => true

/-- Every bar record, every next tag, every kept start point, every alert level, every course record the part holds and the
limits of every edit lie in their ranges (chapter 2, R80, R117, R166), and the limits of a committed set's edits have low at
most high (R85). -/
abbrev State.rangesLaw (s : State) : Prop :=
  (∀ b ∈ s.bars, b.inRange)
    ∧ (∀ tag ∈ s.moves.nextTags, tag ≤ 15)
    ∧ (∀ start ∈ s.moves.starts, ∀ x ∈ start, 0 ≤ x ∧ x ≤ 511)
    ∧ (∀ level ∈ s.alerts.levels, level ≤ 15)
    ∧ (∀ r ∈ s.plan.records ++ s.moves.held :: s.moves.nextRecord.toList, r.inTravel)
    ∧ ∀ c ∈ s.changes.sets, ∀ ke ∈ c.edits.cells, ∀ lh ∈ ke.2.limits,
        0 ≤ lh.1 ∧ lh.1 ≤ 511 ∧ 0 ≤ lh.2 ∧ lh.2 ≤ 511 ∧ (c.isCommitted = true → lh.1 ≤ lh.2)

/-- A record's assignment is none exactly outside ENGAGED, FAULTED and REBINDING, and a cursor stands in the program its bar
leads (R29); a bar is pinned exactly while an edit of a committed set names it, and is then not PARKED (R30); the edits of
every set stand in slot order and name fitted slots (R80, R81). -/
abbrev State.assignmentLaw (s : State) : Prop :=
  (∀ b ∈ s.bars, (b.assignment = .none ↔ b.state.isEngaged = false) ∧ ∀ c ∈ b.cursor, b.assignment = .lead c.program)
    ∧ (∀ slot ∈ slots, (s.bar slot).pinned = s.namedOnList slot
        ∧ (s.namedOnList slot = true → (s.bar slot).state ≠ .parked))
    ∧ ∀ c ∈ s.changes.sets, c.edits.wf = true ∧ ∀ slot ∈ c.edits.keys, slot < 64 ∧ s.fittedSlot slot = true

/-! ### Followers and limits -/

/-- The configuration of the bar records with the edits of the first sets of the commit list laid over them (R85). -/
def State.configAfter (s : State) (sets : Nat) : List BarConfig :=
  (s.changes.commitList.take sets).foldl (fun c n => layConfig c (s.committedEdits n)) s.knitLayout.config

/-- In the bar records, and in each configuration the commit list brings them to from its head, every follower's lead is another
slot that leads a program (R85). -/
abbrev State.followLaw (s : State) : Prop :=
  ∀ sets ∈ List.range (s.changes.commitList.length + 1), ∀ slot ∈ slots, leadFails (s.configAfter sets) slot = false

/-- The configuration of course k: the bar records with every committed set of an effective course up to k laid over them
(R113). -/
def State.configAt (s : State) (k : Nat) : List BarConfig :=
  (s.changes.commitList.filter fun n => decide (s.effectiveCourse n ≤ k)).foldl
    (fun c n => layConfig c (s.committedEdits n)) s.knitLayout.config

/-- Whether a configuration engages a slot. -/
def engagedIn (config : List BarConfig) (slot : Nat) : Bool := assignmentIn config slot != .none

/-- An entry of a course record that is not blocked keeps to the limits of its course and of the next (R117). -/
abbrev Entry.keepsLimits (e : Entry) (now next : List BarConfig) : Prop :=
  (∀ ab ∈ e.pair, (now.getD e.slot coldConfig).admits ab.1 = true ∧ (now.getD e.slot coldConfig).admits ab.2 = true)
    ∧ (now.getD e.slot coldConfig).admits e.u = true ∧ (next.getD e.slot coldConfig).admits e.u = true

/-- Every entry of the current record and of the queue is of a bar engaged at its course or at the next, and, where its record is
not blocked, keeps to the limits that stand there (R116, R117, R137). While nothing is suspended, the plan configuration is that
of H + 1 (R113). -/
abbrev State.limitsLaw (s : State) : Prop :=
  (∀ r ∈ s.plan.records, ∀ e ∈ r.entries,
      e.slot < 64
        ∧ (engagedIn (s.configAt r.course) e.slot = true ∨ engagedIn (s.configAt (r.course + 1)) e.slot = true)
        ∧ (r.cause = .none → e.keepsLimits (s.configAt r.course) (s.configAt (r.course + 1))))
    ∧ (s.plan.suspended = false → s.plan.layout.config = s.configAt (s.plan.horizon + 1))

/-- The uses of a program: the bar records that lead it and the LEAD edits of committed sets that name it (R55). -/
def State.usesOf (s : State) (n : Nat) : Nat :=
  s.leadsOf n
    + (s.changes.commitList.map fun m => (s.committedEdits m).cells.countP fun ke => ke.2.program == some n).sum

/-- A program's reference count is the number of its uses, and a program that has a use is SEALED (R55). -/
abbrev State.refsLaw (s : State) : Prop :=
  (∀ c ∈ s.store.programs.cells, ∀ info ∈ c.2.sealInfo, info.refs = s.usesOf c.1)
    ∧ (∀ b ∈ s.bars, ∀ n ∈ b.assignment.program, (s.sealOf n).isSome = true)
    ∧ ∀ m ∈ s.changes.commitList, ∀ ke ∈ (s.committedEdits m).cells, ∀ n ∈ ke.2.program, (s.sealOf n).isSome = true

/-- An OPEN step names 2 to 4095 passes (R41). -/
def Step.passesInRange : Step → Bool
  | .loopOpen n _ => decide (2 ≤ n) && decide (n ≤ 4095)
  | .course _ _ => true
  | .loopClose _ => true

/-- A program whose seal is in flight is OPEN, with every step written (R46). -/
def State.sealInFlightWhole (s : State) : Bool :=
  match s.port.inFlight with
  | some (.sealing n) => (s.store.programs.find n).any fun p => p.sealInfo.isNone && p.written == p.length
  | some .restart => true
  | none => true

/-- Every program holds the pages its length needs and a step at every index below written (R39, R44); the steps of a SEALED
one are what the seal of them gives, with its course length and depth (R50); the OPEN steps stored and the seal in flight are
as R41 and R46 leave them. -/
abbrev State.programsLaw (s : State) : Prop :=
  (∀ c ∈ s.store.programs.cells,
      c.2.pages.length = pagesFor c.2.length ∧ c.2.written ≤ c.2.length
        ∧ (∀ i ∈ List.range c.2.written, (s.store.readStep c.2 i).isSome = true)
        ∧ ∀ info ∈ c.2.sealInfo,
            c.2.written = c.2.length
              ∧ sealSteps (s.store.stepsOf c.2) = .success (s.store.stepsOf c.2) info.courseLength info.depth)
    ∧ (∀ c ∈ s.store.memory.cells, c.2.passesInRange = true)
    ∧ s.sealInFlightWhole = true

/-- Every LEAD bar holds a knit cursor, which stands where a placement at its program course puts it (R59, R64); the entry
course of every LEAD edit of a committed set lies below its program's course length (R85). -/
abbrev State.cursorLaw (s : State) : Prop :=
  (∀ b ∈ s.bars, ∀ n ∈ b.assignment.program,
      ∃ c ∈ b.cursor, s.place n c.course = some c ∧ c.course < s.courseLength n)
    ∧ ∀ m ∈ s.changes.commitList, ∀ ke ∈ (s.committedEdits m).cells, s.entryTooFar ke.2 = false

/-! ### Windows (chapter 8) -/

/-- What a window asks of a bar under a heading (R133, R135, R137): the position of its entry in the held record on the side the
heading goes to, clamped from a start point where that record is blocked; absent where the bar is not commandable for the
window. -/
def State.aimFrom (s : State) (start : Int) (slot : Nat) (w : Window) (d : Dir) : Option Int :=
  match s.moves.held.entryOf slot with
  | none => none
  | some e =>
    let takesPart : Bool :=
      match e.role, (s.bar slot).state with
      | .lead, .engaged => true
      | .follow, .engaged => true
      | .leadin, .idle => decide (w = .underlap ∧ d = .forward)
      | _, _ => false
    let position : Option Int :=
      match w, d with
      | .overlap, .forward => e.pair.map (·.2)
      | .overlap, .reverse => e.pair.map (·.1)
      | .underlap, .forward => some e.u
      | .underlap, .reverse => e.pair.map (·.2)
    if takesPart then
      position.map fun x =>
        if s.moves.held.cause = .none then x else clampTarget (s.bar slot) (s.profile (s.bar slot).profile) start x
    else none

/-- What a window asks of a bar commanded as it stands (R137, R138). -/
def State.aim (s : State) (slot : Nat) (w : Window) (d : Dir) : Option Int := s.aimFrom (s.bar slot).startPoint slot w d

/-- What a window still asks of a bar since its last command (R144, R146; log 37). -/
def State.aimStanding (s : State) (slot : Nat) (w : Window) (d : Dir) : Option Int := s.aimFrom (s.keptStart slot) slot w d

/-- What the leaving check of a window asks of a bar on the way in a direction: what its last command asked, or, where it is
commanded on that way, since the window is entered or the heading turns, what that command asks (R144, R146). -/
def State.aimLeaving (s : State) (entered : Bool) (d : Dir) (slot : Nat) (w : Window) : Option Int :=
  if entered || decide ((s.tracker (s.bar slot).profile).heading ≠ d) then s.aim slot w d else s.aimStanding slot w d

/-- From one state to the next the start point of each bar that was commanded is kept, and of no other (log 37). -/
abbrev State.startsKept (s t : State) (commanded : Nat → Bool) : Prop :=
  t.moves.starts.length = s.moves.starts.length
    ∧ ∀ slot ∈ slots, t.moves.starts.getD slot none
        = if commanded slot then some (s.bar slot).startPoint else s.moves.starts.getD slot none

/-- Whether a bar has not come to a position: it moves still, or stands elsewhere (R144). -/
def Bar.isAwayFrom (b : Bar) (x : Int) : Bool := b.move.isSome || decide (b.position ≠ x)

/-- Whether a MOVE to a position is sent for a bar (R138). -/
def Bar.isSentTo (b : Bar) (x : Int) : Bool :=
  match b.move with
  | none => decide (b.position ≠ x)
  | some m => decide (m.target ≠ x)

/-- A MOVE sent for a bar: its target, its side and its budget (R138). -/
structure Sent where
  target : Int
  side : Side
  budget : Nat
  deriving DecidableEq, Repr

/-- The budget of a move commanded `away` units of the angle before the end of its window (R138): bounded going forward with a
period. -/
def budgetFor (d : Dir) (period : Option Nat) (away : Nat) : Nat :=
  match d, period with
  | .forward, some us => away * us / 1024
  | .forward, none => 0
  | .reverse, _ => 0

/-- The outstanding move of a bar for which a MOVE was sent (R138). -/
def State.moveOf (s : State) (slot : Nat) (m : Sent) : Move :=
  { tag := s.nextTag slot, target := m.target, counts := targetCounts s.gauge (s.bar slot).trim m.target, side := m.side
    kind := if (s.bar slot).state = .idle then .leadin else .pattern }

/-- The MOVE frame sent for a bar (R138). -/
def State.frameOf (s : State) (slot : Nat) (m : Sent) : QueuedFrame :=
  .move (s.bar slot).address (s.nextTag slot) (targetCounts s.gauge (s.bar slot).trim m.target) m.budget

/-! ### The send queue (R153) -/

/-- What stands in the place of a queued frame once frames have been handed, each with its address: the first of those that take
its place, and the frame itself where none does (R153). -/
def handedIn (replaces : Nat → QueuedFrame → Bool) (handed : List (Nat × QueuedFrame)) (q : QueuedFrame) : QueuedFrame :=
  ((handed.find? fun h => replaces h.1 q).map (·.2)).getD q

/-- The frames handed that take no queued frame's place, in the order handed (R153). -/
def joining (replaces : Nat → QueuedFrame → Bool) (handed : List (Nat × QueuedFrame)) (queue : List QueuedFrame) :
    List QueuedFrame :=
  (handed.filter fun h => !queue.any (replaces h.1)).map (·.2)

/-- A queue once frames for addresses all different have been handed to it: each takes the place of the frame it replaces, or
joins the tail; every other frame stays in its place (R153). -/
def framesPlaced (replaces : Nat → QueuedFrame → Bool) (handed : List (Nat × QueuedFrame)) (queue : List QueuedFrame) :
    List QueuedFrame :=
  queue.map (handedIn replaces handed) ++ joining replaces handed queue

/-- The queue after control frames, BINDs or UNBINDs, have been handed (R153). -/
abbrev controlsPlaced := framesPlaced QueuedFrame.isControlFor

/-- The queue after MOVEs have been handed (R153). -/
abbrev movesPlaced := framesPlaced QueuedFrame.isMoveFor

/-- A queue without the MOVEs for an address (R153). -/
def withoutMoves (address : Nat) (queue : List QueuedFrame) : List QueuedFrame := queue.filter fun q => !q.isMoveFor address

/-- The BINDs of some slots, each with its bar's address, in slot order (R156, R157). -/
def State.bindsOf (s : State) (chosen : Nat → Bool) : List (Nat × QueuedFrame) :=
  (slots.filter chosen).map fun slot => ((s.bar slot).address, .bind (s.bar slot).address slot)

/-- The MOVEs sent, each with its bar's address, in slot order. -/
def State.movesOf (s : State) (sent : Nat → Option Sent) : List (Nat × QueuedFrame) :=
  slots.filterMap fun slot => (sent slot).map fun m => ((s.bar slot).address, s.frameOf slot m)

/-- From one state to the next the Move Unit sent these MOVEs and no other: each bar's outstanding move and next tag are those
that follow; in the send queue each MOVE takes the place of the one queued for its address, those that find none join the
tail, one crossing after another, and every other frame stays in its place (R138, R153). -/
abbrev State.movesSent (s t : State) (sent : Nat → Option Sent) : Prop :=
  (∀ slot ∈ slots,
      (t.bar slot).move = ((sent slot).map (s.moveOf slot)).or (s.bar slot).move
        ∧ t.nextTag slot = if (sent slot).isSome then (s.nextTag slot + 1) % 16 else s.nextTag slot)
    ∧ t.ring = { s.ring with queue := t.ring.queue }
    ∧ t.ring.queue.take s.ring.queue.length = s.ring.queue.map (handedIn QueuedFrame.isMoveFor (s.movesOf sent))
    ∧ (t.ring.queue.drop s.ring.queue.length).Perm (joining QueuedFrame.isMoveFor (s.movesOf sent) s.ring.queue)

/-- From one state to the next LATE was raised once for each of these bars and for no other, with the course C (R144, R167). -/
abbrev State.lateRaised (s t : State) (late : Nat → Bool) : Prop :=
  let before := s.alerts.record 3
  let after := t.alerts.record 3
  let raises := slots.countP late
  (raises = 0 → after = before)
    ∧ (raises ≠ 0 → after.pending = true ∧ after.count = min 255 ((if before.pending then before.count else 0) + raises))
    ∧ (raises ≠ 0 → before.pending = true → after.slot = before.slot ∧ after.course = before.course)
    ∧ (raises ≠ 0 → before.pending = false →
        after.course = some t.shaft.c ∧ ∃ slot ∈ slots, late slot = true ∧ after.slot = some slot)

/-- A bar that the leaving check of a window finds late (R144): an ENGAGED one becomes FAULTED, the lead-in late flag of an IDLE
one is set. -/
def Bar.foundLate (b : Bar) (late : Bool) : Bar :=
  { b with
    state := if late && decide (b.state = .engaged) then .faulted else b.state
    leadInLate := b.leadInLate || (late && decide (b.state = .idle)) }

/-- The first angle of a window (R97). -/
def Profile.windowStart (p : Profile) : Window → Nat
  | .overlap => p.os
  | .underlap => p.us

/-- The windows in the order a direction meets them. -/
def windowsAlong : Dir → List Window
  | .forward => [.overlap, .underlap]
  | .reverse => [.underlap, .overlap]

/-- Whether the sweep of a course entry from an angle leaves a window (R142). -/
def Profile.sweepLeaves (p : Profile) (d : Dir) (w : Window) (angle : Nat) : Bool :=
  match d with
  | .forward => decide (angle < p.windowEnd w)
  | .reverse => decide (p.windowStart w ≤ angle)

/-- Whether the sweep of a course entry from an angle enters a window (R142). -/
def Profile.sweepEnters (p : Profile) (d : Dir) (w : Window) (angle : Nat) : Bool :=
  match d with
  | .forward => decide (angle < p.windowStart w)
  | .reverse => decide (p.windowEnd w ≤ angle)

/-- The window that the sweep of a course entry finds a bar late in (R142 to R144): the first it leaves that asks of the bar a
position it has not come to. With a hold there is none. -/
def State.sweepLate (s : State) (d : Dir) (slot : Nat) : Option Window :=
  if s.moves.heldHold = 0 then
    (windowsAlong d).find? fun w =>
      let p := s.profile (s.bar slot).profile
      p.sweepLeaves d w s.shaft.angle
        && (s.aimLeaving (p.sweepEnters d w s.shaft.angle) d slot w).any (s.bar slot).isAwayFrom
  else none

/-- The MOVE that a course entry sends for a bar, where the sweep finds it late: as the window is entered, with the period the
entry captured, or as the heading turns within it (R138, R140, R142). -/
def State.sweepSent (s : State) (d : Dir) (period : Option Nat) (slot : Nat) : Option Sent :=
  let p := s.profile (s.bar slot).profile
  (s.sweepLate d slot).bind fun w =>
    (s.aim slot w d).bind fun x =>
      if !(s.bar slot).isSentTo x then none
      else if p.sweepEnters d w s.shaft.angle then
        some { target := x, side := sideOf w d, budget := budgetFor d period (p.windowEnd w - p.windowStart w) }
      else if (s.tracker (s.bar slot).profile).heading ≠ d then
        some { target := x, side := sideOf w d, budget := budgetFor d s.shaft.period (p.windowEnd w - s.shaft.angle) }
      else none

/-- Whether a course entry commands a bar: as the sweep enters a window, or as the heading turns in the one the angle lies in,
unless the window before it found the bar late (R138, R140, R142). -/
def State.sweepCommands (s : State) (d : Dir) (slot : Nat) : Bool :=
  let p := s.profile (s.bar slot).profile
  let turns := decide ((s.tracker (s.bar slot).profile).heading ≠ d)
  decide (s.moves.heldHold = 0)
    && (windowsAlong d).any fun w =>
      (p.sweepEnters d w s.shaft.angle || turns && p.sweepLeaves d w s.shaft.angle) && (s.aim slot w d).isSome
        && decide (s.sweepLate d slot = none ∨ s.sweepLate d slot = some w ∨ (windowsAlong d).head? = some w)

/-- Whether an ordinary step to an angle leaves a window with a bar of its profile late (R134, R144). -/
def State.stepLate (s : State) (d : Dir) (angle slot : Nat) : Bool :=
  let p := s.profile (s.bar slot).profile
  match (p.regionAt s.shaft.angle).window with
  | none => false
  | some w =>
    decide (s.moves.heldHold = 0 ∧ p.regionAt angle ≠ p.regionAt s.shaft.angle)
      && (s.aimLeaving false d slot w).any (s.bar slot).isAwayFrom

/-- The MOVE that an ordinary step to an angle sends for a bar: as the heading turns within a window (R140), or as a window is
entered (R138). -/
def State.stepSent (s : State) (d : Dir) (angle slot : Nat) : Option Sent :=
  let b := s.bar slot
  let p := s.profile b.profile
  let sends (w : Window) (from_ : Nat) : Option Sent :=
    (s.aim slot w d).bind fun x =>
      if b.isSentTo x then
        some { target := x, side := sideOf w d, budget := budgetFor d s.shaft.period (p.windowEnd w - from_) }
      else none
  let turned :=
    match (p.regionAt s.shaft.angle).window with
    | some w => if (s.tracker b.profile).heading ≠ d then sends w s.shaft.angle else none
    | none => none
  let entered :=
    match (p.regionAt angle).window with
    | some w =>
      if p.regionAt angle ≠ p.regionAt s.shaft.angle ∧ s.stepLate d angle slot = false then sends w angle else none
    | none => none
  if s.moves.heldHold = 0 then turned.or entered else none

/-- Whether an ordinary step to an angle commands a bar: as the heading turns within a window, or as a window is entered
(R138, R140). -/
def State.stepCommands (s : State) (d : Dir) (angle slot : Nat) : Bool :=
  let b := s.bar slot
  let p := s.profile b.profile
  let asks (r : Region) := r.window.any fun w => (s.aim slot w d).isSome
  decide (s.moves.heldHold = 0)
    && (decide ((s.tracker b.profile).heading ≠ d) && asks (p.regionAt s.shaft.angle)
      || decide (p.regionAt angle ≠ p.regionAt s.shaft.angle) && !s.stepLate d angle slot && asks (p.regionAt angle))

/-! ### A bar commanded at once (R141) -/

/-- What the window in which the tracker of a bar's profile stands asks of the bar; absent outside the windows and where the bar
is not commandable (R135, R137). -/
def State.aimNow (s : State) (slot : Nat) : Option Int :=
  let k := s.tracker (s.bar slot).profile
  k.region.window.bind fun w => s.aim slot w k.heading

/-- What that window still asks of the bar since its last command (R141, R146). -/
def State.standingNow (s : State) (slot : Nat) : Option Int :=
  let k := s.tracker (s.bar slot).profile
  k.region.window.bind fun w => s.aimStanding slot w k.heading

/-- Whether a bar commanded at once has a command: it is commandable, and no hold stands (R141, R143). -/
def State.commandsAtOnce (s : State) (slot : Nat) : Bool := decide (s.moves.heldHold = 0) && (s.aimNow slot).isSome

/-- The MOVE sent for a bar that is commanded at once: as at the entry of the window its tracker stands in, with the budget of
the angle at that moment (R141, R138). Under a hold there is none (R143). -/
def State.sentAtOnce (s : State) (slot : Nat) : Option Sent :=
  let p := s.profile (s.bar slot).profile
  let k := s.tracker (s.bar slot).profile
  if s.moves.heldHold = 0 then
    k.region.window.bind fun w =>
      (s.aimNow slot).bind fun x =>
        if (s.bar slot).isSentTo x then
          some
            { target := x
              side := sideOf w k.heading
              budget :=
                if s.shaft.state = .forward then budgetFor .forward s.shaft.period (p.windowEnd w - s.shaft.angle) else 0 }
        else none
  else none

/-- Whether a bar is commanded as one state's held record gives place to another's: where its target changes (R136, R141). -/
def State.commandsForChange (s u : State) (slot : Nat) : Bool :=
  decide (u.standingNow slot ≠ s.standingNow slot) && u.commandsAtOnce slot

/-- The MOVE sent for a bar as one state's held record gives place to another's (R136, R141). -/
def State.sentForChange (s u : State) (slot : Nat) : Option Sent :=
  if s.commandsForChange u slot then u.sentAtOnce slot else none

/-! ### The permitted speed over one command (R126, R127) -/

/-- The speed line after a send is wanted, with P as it then stands (R127). -/
def SpeedLine.wanted (l : SpeedLine) (p : Nat) : SpeedLine :=
  match l.sending with
  | none => { sending := some (speedMessage p), again := false }
  | some _ => { l with again := true }

/-- From one state to the next, P has become the permitted speed, and a send was wanted exactly where P changed (R126, R127). -/
abbrev State.speedFollows (s t : State) : Prop :=
  t.speedLaw ∧ t.speedLine = if t.plan.p = s.plan.p then s.speedLine else s.speedLine.wanted t.plan.p

/-! ### What one command does to the alerts and the ring -/

/-- From one state to the next, one alert was raised, with its slot and course, and both lines follow (R167, R170, R171). -/
abbrev State.alertRaised (s t : State) (kind : Nat) (slot course : Option Nat) : Prop :=
  t.alerts = { s.alerts with
      records := s.alerts.records.set kind ((s.alerts.record kind).raised slot course)
      attention := t.alerts.attention
      stop := t.alerts.stop }
    ∧ t.linesLaw

/-- From one state to the next, an alert of a kind was raised with a slot and the course C where it was due, and its record stays
where it was not (R167). -/
abbrev State.raisedWhere (s t : State) (kind : Nat) (due : Bool) (slot : Option Nat) : Prop :=
  t.alerts.record kind = if due then (s.alerts.record kind).raised slot (some t.shaft.c) else s.alerts.record kind

/-- From one state to the next, where a course record was built for the course C it raised the alert of its cause: TRAVEL, or
SHOG_LIMIT for SHOG_LIMIT and TIMING, and BLOCKED_ENTRY, each with its offending slot and C (R119, R122, R123). -/
abbrev State.blockedRaised (s t : State) (built : Bool) (r : CourseRecord) : Prop :=
  s.raisedWhere t 8 (built && decide (r.cause = .travel)) r.offending
    ∧ s.raisedWhere t 9 (built && decide (r.cause = .shogLimit ∨ r.cause = .timing)) r.offending
    ∧ s.raisedWhere t 1 (built && decide (r.cause ≠ .none)) r.offending

/-- From one state to the next, the planner replanned (R125): the current record is the one built from the bar records and knit
cursors, the queue is empty, H is C, the plan state is the copy from the knit cursors for C + 1; a blocked record raised its
alerts and no other was raised; the Move Unit holds the new record, and each bar whose target it changes was commanded at
once (R136, R141). -/
abbrev State.replanned (s t : State) : Prop :=
  let r := t.builtRecord
  let u : State := { s with moves := { s.moves with held := r } }
  t.plan = { s.plan with
      current := r, queue := [], horizon := s.shaft.c, planning := false, planPosition := s.shaft.c + 1
      layout := t.advance s.shaft.c t.knitLayout, p := t.plan.p }
    ∧ t.moves = { s.moves with held := r, nextTags := t.moves.nextTags, starts := t.moves.starts }
    ∧ u.movesSent t (s.sentForChange u)
    ∧ u.startsKept t (s.commandsForChange u)
    ∧ s.blockedRaised t true r
    ∧ (∀ kind ∈ List.range 16, kind ≠ 1 → kind ≠ 8 → kind ≠ 9 → t.alerts.record kind = s.alerts.record kind)
    ∧ t.alerts = { s.alerts with records := t.alerts.records, attention := t.alerts.attention, stop := t.alerts.stop }
    ∧ (r.cause = .none → t.alerts = s.alerts)
    ∧ (r.cause ≠ .none → t.linesLaw)

/-! ### The structure scan (R47) -/

/-- Whether a step is an OPEN. -/
def Step.isOpen : Step → Bool
  | .loopOpen _ _ => true
  | .course _ _ => false
  | .loopClose _ => false

/-- Whether a step is a CLOSE. -/
def Step.isClose : Step → Bool
  | .loopClose _ => true
  | .course _ _ => false
  | .loopOpen _ _ => false

/-- Whether a step is a COURSE. -/
def Step.isCourse : Step → Bool
  | .course _ _ => true
  | .loopOpen _ _ => false
  | .loopClose _ => false

/-- How many more OPEN steps than CLOSE steps stand before an index: the loops open there. -/
def nestBefore (steps : List Step) (i : Nat) : Int :=
  ((steps.take i).countP Step.isOpen : Int) - (steps.take i).countP Step.isClose

/-- A run of steps in which every loop opened is closed, and none else: a program of a clean scan, or the body of one of its
loops (R47, R49). -/
abbrev closedRun (steps : List Step) : Prop :=
  nestBefore steps steps.length = 0 ∧ ∀ j ∈ List.range (steps.length + 1), 0 ≤ nestBefore steps j

/-- Whether a COURSE step stands before an index, inside the innermost loop that is open there: from the COURSE on, no fewer loops
are open. -/
def holdsCourse (steps : List Step) (i : Nat) : Bool :=
  (List.range i).any fun k =>
    steps[k]?.any Step.isCourse && (List.range' k (i - k)).all fun m => decide (nestBefore steps i ≤ nestBefore steps m)

/-- The cause with which the step at an index fails, where none before it does (R47). -/
def faultAt (steps : List Step) (i : Nat) : Option ScanFault :=
  match steps[i]? with
  | some (.loopOpen _ _) => if nestBefore steps i = 4 then some .tooDeep else none
  | some (.loopClose _) =>
    if nestBefore steps i = 0 then some .unmatchedClose else if holdsCourse steps i then none else some .emptyLoop
  | some (.course _ _) => none
  | none => none

/-- The marker that a training sends at a time, with its transit entry (R151, R152). -/
def markerInTransit (seq : Byte) (now : Nat) : Transit := { seq, bytes := withCheck (markerBytes seq), sentAt := now }

/-- A binding attempt as it starts (R157). -/
def freshAttempt : Attempt := { count := 0, timer := none, silentRaised := false }

/-- From one state to the next, the ring left UP with every effect of R155 and R34: TRAINING with its first marker sent, the
UNBINDs alone kept in the queue, every retry timer stopped, every move discarded, each bound-side bar back to BINDING or
REBINDING with an attempt, LINK_LOST raised; nothing else but P and the speed line changed. -/
abbrev State.leftUp (s t : State) : Prop :=
  t.ring = { s.ring with
      state := .training
      markerRun := 0
      losses := 0
      transit := [markerInTransit s.ring.nextSeq s.now]
      nextSeq := s.ring.nextSeq + 1
      queue := s.ring.queue.filter (·.isUnbind)
      attempts := t.ring.attempts
      out := withCheck (markerBytes s.ring.nextSeq) }
    ∧ (∀ slot ∈ slots, t.ring.attempts.find slot
        = if (s.bar slot).state.isBound then some freshAttempt
          else (s.ring.attempts.find slot).map fun a => { a with timer := none })
    ∧ (∀ slot ∈ slots, t.bar slot = { s.bar slot with
          move := none
          state := match (s.bar slot).state with
            | .idle => .binding
            | .engaged => .rebinding
            | .faulted => .rebinding
            | .unfitted => .unfitted
            | .parked => .parked
            | .binding => .binding
            | .rebinding => .rebinding })
    ∧ s.alertRaised t 6 none (some s.shaft.c)
    ∧ s.speedFollows t
    ∧ t = { s with
        ring := t.ring, bars := t.bars, alerts := t.alerts, plan := { s.plan with p := t.plan.p }, speedLine := t.speedLine }

/-! ### The port after a request (R184 to R186) -/

/-- The port after a request message of n bytes has been taken and answered. -/
def Port.answered (p : Port) (n : Nat) (r : Reply) : Port :=
  { p with inFlight := none, held := some { reply := r, wasRead := false }, dataOut := takingBytes .ok n }

/-- The state after a request message of n bytes has been answered and nothing else has changed. -/
def State.answered (s : State) (n : Nat) (r : Reply) : State := { s with port := s.port.answered n r }

/-- No request is in flight, so the port takes the next one (R185). -/
abbrev State.portIdle (s : State) : Prop := s.port.inFlight = none

end Sys2Proof.Machine
end

