-- ==== Sys2Proof/WellFormed.lean ====
section
/-! DEFINITION. Which commands can come to the part as their rows say: each check names what it refuses. The meanings are
total; a command that is not well formed is one that the outside cannot send under its own row's name. -/

namespace Sys2Proof

/-- What a command that is not well formed breaks. -/
inductive IllFormed where
  /-- A retry timer belongs to a slot 0..63 (chapter 9). -/
  | noSuchSlot
  /-- A read clocks at least one byte (R184). -/
  | emptyRead
  /-- A request transaction shifts in a code that is not 0 (R184). -/
  | noRequest
  /-- An UNKNOWN command's message fails a check of R186; one that passes is the request it spells. -/
  | knownMessage
  /-- A WRITE_STEPS body holds at most 50 steps (R186). -/
  | tooManySteps
  /-- A frame carries the kind of its row in its first byte (section 9.7). -/
  | wrongKind
  deriving DecidableEq, Repr

/-- The first byte of a frame is a kind. -/
def frameKindIs (kind : Byte) (bytes : List Byte) : Bool := bytes.head? == some kind

/-- The first byte of a frame is the kind of one of the part's own frames: MARKER, BIND, UNBIND or MOVE. -/
def partFrameKind (bytes : List Byte) : Bool :=
  frameKindIs 1 bytes || frameKindIs 2 bytes || frameKindIs 3 bytes || frameKindIs 4 bytes

/-- A refusal where a check fails. -/
def checkThat (b : Bool) (e : IllFormed) : Option IllFormed := if b then none else some e

/-- What a command breaks, absent where it is well formed. -/
def illFormed : Instr → Option IllFormed
  | .retryExpiry slot => checkThat (decide (slot < 64)) .noSuchSlot
  | .read places => checkThat (decide (0 < places)) .emptyRead
  | .busy message =>
    checkThat (match message with | [] => false | code :: _ => code != 0) .noRequest
  | .unknown message =>
    checkThat (parseMessage message == .unknownCode || parseMessage message == .badLength) .knownMessage
  | .writeSteps _ _ steps => checkThat (decide (steps.length ≤ 50)) .tooManySteps
  | .markerReturn bytes => checkThat (frameKindIs 1 bytes) .wrongKind
  | .partFrameReturn bytes => checkThat (partFrameKind bytes) .wrongKind
  | .bindAck bytes => checkThat (frameKindIs 9 bytes) .wrongKind
  | .done bytes => checkThat (frameKindIs 10 bytes) .wrongKind
  | .fault bytes => checkThat (frameKindIs 11 bytes) .wrongKind
  | .ordinaryStep _ => none
  | .skippedCount => none
  | .indexWithoutStep _ => none
  | .forwardCourseEntry _ => none
  | .reverseCourseEntry => none
  | .stallTimerExpiry => none
  | .emergencyInputActive => none
  | .emergencyInputInactive => none
  | .speedMessageEnd => none
  | .planningStart => none
  | .planningEnd => none
  | .frameSend => none
  | .markerLost => none
  | .frameDeclaredLost => none
  | .idleTimerExpiry => none
  | .sealEnd => none
  | .bind _ => none
  | .park _ => none
  | .setAddress _ _ => none
  | .setBarProfile _ _ => none
  | .setTrim _ _ => none
  | .setLimits _ _ _ => none
  | .queryBar _ => none
  | .recover _ => none
  | .createProgram _ _ => none
  | .sealProgram _ => none
  | .retireProgram _ => none
  | .queryProgram _ => none
  | .readSteps _ _ _ => none
  | .queryStore => none
  | .openSet _ => none
  | .addEdit _ _ _ => none
  | .dropEdit _ _ => none
  | .commitSet _ _ => none
  | .cancelSet _ => none
  | .discardSet _ => none
  | .querySet _ => none
  | .setProfile _ _ => none
  | .queryProfile _ => none
  | .setSpeedCap _ => none
  | .queryMotion => none
  | .queryCourse _ _ => none
  | .retrain => none
  | .queryRing => none
  | .queryAlerts => none
  | .ackAlert _ => none
  | .setAlertLevel _ _ => none
  | .setStopThreshold _ => none
  | .clearHalt => none
  | .setFrame _ => none
  | .queryFrame => none
  | .setPieceLength _ => none
  | .startPieces => none
  | .pausePieces => none
  | .clearPieces => none
  | .queryPieces => none
  | .restart => none
  | .warmResetComplete _ => none
  | .queryStatus => none
  | .coldReset _ _ _ _ => none

/-- Whether a command is well formed. -/
def wellFormed (i : Instr) : Bool := (illFormed i).isNone

end Sys2Proof
end

