-- ==== Sys2Proof/Certificates/Slice0/Obligations.lean ====
section
/-! DEFINITION. The statements for the provers: what each command, each operation and each step of the part does, from the
manual's rules. -/

open Sys2Proof Sys2Proof.Machine

/-- For every state whose queue is a command followed by a rest, step is exec of that command on the state with the rest. On
an empty queue step answers a next state one microsecond on: the stall timer rises to at most 500,000, the idle timer to
at most 10,000 in UP and stays otherwise, each running retry timer to at most 100,000, and a stopped one stays stopped.
Then the queue holds: STALL_TIMER_EXPIRY once where the shaft is not STOPPED and the stall timer stands at 500,000 (R8);
for each transit entry that has stood 1000 microseconds MARKER_LOST in TRAINING (R151) and FRAME_DECLARED_LOST in UP
(R152); IDLE_TIMER_EXPIRY once in UP at 10,000 with no MARKER queued (R154); RETRY_EXPIRY of each slot whose attempt's
timer stands at 100,000 (R158); PLANNING_START once where the frame is written, nothing is suspended or planned, the
queue has room and a course is left (R115); FRAME_SEND once in UP with fewer than 16 frames in transit and one queued
(R153); and nothing else. Nothing but the clock, the timers and the queue has changed. The queue, what an empty one does
and the order of the events are the model's choice (log 1). -/
def Obligations.StepRunsFrontCommand : Prop :=
  (∀ (i : Instr) (rest : List Instr) (s : State), s.pending = i :: rest → step s = exec i { s with pending := rest })
    ∧ ∀ s : State, s.pending = [] →
        ∃ t : State, step s = .next t ∧ t.now = s.now + 1
          ∧ t.shaft = { s.shaft with stall := min 500000 (s.shaft.stall + 1) }
          ∧ t.ring = { s.ring with
              idle := if s.ring.state = .up then min 10000 (s.ring.idle + 1) else s.ring.idle
              attempts := t.ring.attempts }
          ∧ (∀ slot, t.ring.attempts.find slot = (s.ring.attempts.find slot).map fun a =>
              { a with timer := a.timer.map fun n => min 100000 (n + 1) })
          ∧ t.ring.attempts.keys = s.ring.attempts.keys
          ∧ t.bars = s.bars ∧ t.store = s.store ∧ t.changes = s.changes ∧ t.profiles = s.profiles ∧ t.plan = s.plan
          ∧ t.speedLine = s.speedLine ∧ t.moves = s.moves ∧ t.alerts = s.alerts ∧ t.frame = s.frame
          ∧ t.pieces = s.pieces ∧ t.port = s.port
          ∧ t.pending = t.dueEvents
          ∧ (let overdue := t.ring.transit.countP fun x => decide (x.sentAt + 1000 ≤ t.now)
             t.pending.count .stallTimerExpiry = (if t.shaft.state ≠ .stopped ∧ t.shaft.stall = 500000 then 1 else 0)
               ∧ t.pending.count .markerLost = (if t.ring.state = .training then overdue else 0)
               ∧ t.pending.count .frameDeclaredLost = (if t.ring.state = .up then overdue else 0)
               ∧ t.pending.count .idleTimerExpiry
                 = (if t.ring.state = .up ∧ t.ring.idle = 10000 ∧ QueuedFrame.marker ∉ t.ring.queue then 1 else 0)
               ∧ t.pending.count .planningStart
                 = (if t.frame ≠ none ∧ t.plan.suspended = false ∧ t.plan.planning = false ∧ t.plan.queue.length < 32
                      ∧ t.plan.horizon + 1 ≤ 2147483647 then 1 else 0)
               ∧ t.pending.count .frameSend
                 = (if t.ring.state = .up ∧ t.ring.transit.length < 16 ∧ t.ring.queue ≠ [] then 1 else 0))
          ∧ (∀ slot : Nat, t.pending.count (.retryExpiry slot)
              = t.ring.attempts.cells.countP fun c => c.1 == slot && c.2.timer == some 100000)
          ∧ ∀ i ∈ t.pending, i = .stallTimerExpiry ∨ i = .markerLost ∨ i = .frameDeclaredLost ∨ i = .idleTimerExpiry
              ∨ (∃ slot : Nat, i = .retryExpiry slot) ∨ i = .planningStart ∨ i = .frameSend

/-- SKIPPED_COUNT answers the state with both channel levels inverted and nothing else changed. INDEX_WITHOUT_STEP with a
skipped count does the same; with no change of a channel it answers the state as it was. STALL_TIMER_EXPIRY answers a
next state whose shaft is STOPPED with the stall timer at 500,000; from FORWARD or REVERSE the period and the run start
become absent, in STOPPED they stay. From REVERSE suspended becomes no and a copy from the knit cursors is made, with
the plan position C + 1; from the other states nothing but the shaft changes, where P is the permitted speed. That the
command is the timer's reaching of 500,000 whatever it held before is the model's choice (log 16). -/
def Obligations.SkippedCountsAndTheStall : Prop :=
  (∀ s : State,
    exec .skippedCount s
        = .next { s with shaft := { s.shaft with levelA := !s.shaft.levelA, levelB := !s.shaft.levelB } }
      ∧ exec (.indexWithoutStep true) s
        = .next { s with shaft := { s.shaft with levelA := !s.shaft.levelA, levelB := !s.shaft.levelB } }
      ∧ exec (.indexWithoutStep false) s = .next s)
    ∧ ∀ s : State, ∃ t : State, exec .stallTimerExpiry s = .next t
      ∧ (s.shaft.state = .stopped → t = { s with shaft := { s.shaft with stall := 500000 } })
      ∧ (s.shaft.state ≠ .stopped →
          t.shaft = { s.shaft with state := .stopped, stall := 500000, period := none, runStart := none })
      ∧ (s.shaft.state = .forward → s.speedLaw → t = { s with shaft := t.shaft })
      ∧ (s.shaft.state = .reverse → s.speedLaw →
          t = { s with
            shaft := t.shaft
            plan := { s.plan with
              suspended := false, layout := s.advance s.shaft.c s.knitLayout, planPosition := s.shaft.c + 1 } })

/-- For every state with sixteen alert records and every channel, ORDINARY_STEP answers a next state. Its direction is the
table of R1. The channel takes its new level, the shaft state and the stall timer follow the step, the angle and the
overrun are what each row of the table of R2 gives, slip raised falls with the overrun's return to 0, SHAFT_SLIP is
raised exactly where the overrun reaches 9 with the angle found and no slip raised, and a reverse step breaks the run.
As the shaft state enters REVERSE, planning is suspended, the queue is emptied, H becomes C and a planning in flight is
abandoned, the current record staying; as it leaves REVERSE, suspended becomes no and a copy from the knit cursors is
made, with the plan position C + 1; at any other step the plan stays (R124). P and the speed line follow, and no alert
but SHAFT_SLIP and LATE is raised. C, the hold count, angle found, every program, set, profile, the frame, the pieces,
the port, the clock and the queue stay, and every bar record keeps all but its state, its move and its lead-in late
flag. -/
def Obligations.OrdinaryStepMovesAngleOrOverrun : Prop :=
  ∀ (s : State) (ch : Channel), s.alerts.records.length = 16 →
    ∃ t : State, exec (.ordinaryStep ch) s = .next t ∧
      let d := stepDir s.shaft.levelA s.shaft.levelB ch
      let n := s.shaft.overrun
      let slips := n = 8 ∧ t.shaft.overrun = 9 ∧ s.shaft.angleFound = true ∧ s.shaft.slipRaised = false
      (d = .forward ↔
          (s.shaft.levelA, s.shaft.levelB, ch)
            ∈ [(false, false, Channel.a), (true, false, .b), (true, true, .a), (false, true, .b)])
        ∧ (t.shaft.levelA, t.shaft.levelB)
            = (match ch with
              | .a => (!s.shaft.levelA, s.shaft.levelB)
              | .b => (s.shaft.levelA, !s.shaft.levelB))
        ∧ t.shaft.state = (match d with | .forward => .forward | .reverse => .reverse)
        ∧ t.shaft.stall = 0
        ∧ (d = .forward → n = 0 → s.shaft.angle < 1023 → t.shaft.angle = s.shaft.angle + 1 ∧ t.shaft.overrun = 0)
        ∧ (d = .forward → s.shaft.angle = 1023 → (n = 0 ∨ s.shaft.overrunSide = .forward) →
            t.shaft.angle = 1023 ∧ t.shaft.overrun = min 65535 (n + 1) ∧ t.shaft.overrunSide = .forward)
        ∧ (d = .reverse → n = 0 → 0 < s.shaft.angle → t.shaft.angle = s.shaft.angle - 1 ∧ t.shaft.overrun = 0)
        ∧ (d = .reverse → s.shaft.angle = 0 → (n = 0 ∨ s.shaft.overrunSide = .reverse) →
            t.shaft.angle = 0 ∧ t.shaft.overrun = min 65535 (n + 1) ∧ t.shaft.overrunSide = .reverse)
        ∧ (d = .reverse → s.shaft.angle = 1023 → 0 < n → s.shaft.overrunSide = .forward →
            t.shaft.angle = 1023 ∧ t.shaft.overrun = n - 1)
        ∧ (d = .forward → s.shaft.angle = 0 → 0 < n → s.shaft.overrunSide = .reverse →
            t.shaft.angle = 0 ∧ t.shaft.overrun = n - 1)
        ∧ (0 < n → t.shaft.overrun = 0 → t.shaft.slipRaised = false)
        ∧ (slips → t.shaft.slipRaised = true
            ∧ t.alerts.record 11 = (s.alerts.record 11).raised none (some s.shaft.c))
        ∧ (¬slips → t.alerts.record 11 = s.alerts.record 11)
        ∧ (d = .reverse → t.shaft.period = none ∧ t.shaft.runStart = none)
        ∧ (d = .forward → t.shaft.period = s.shaft.period ∧ t.shaft.runStart = s.shaft.runStart)
        ∧ (d = .reverse → s.shaft.state ≠ .reverse →
            t.plan = { s.plan with
              suspended := true, queue := [], horizon := s.shaft.c, planning := false, p := t.plan.p })
        ∧ (d = .forward → s.shaft.state = .reverse →
            t.plan = { s.plan with
              suspended := false, layout := s.advance s.shaft.c s.knitLayout, planPosition := s.shaft.c + 1
              p := t.plan.p })
        ∧ (s.shaft.state = t.shaft.state ∨ s.shaft.state = .stopped ∧ d = .forward →
            t.plan = { s.plan with p := t.plan.p })
        ∧ s.speedFollows t
        ∧ (∀ kind, kind ≠ 3 → kind ≠ 11 → t.alerts.record kind = s.alerts.record kind)
        ∧ t.shaft.c = s.shaft.c ∧ t.shaft.hold = s.shaft.hold ∧ t.shaft.angleFound = s.shaft.angleFound
        ∧ (∀ m, { t.bar m with
            state := (s.bar m).state, move := (s.bar m).move, leadInLate := (s.bar m).leadInLate } = s.bar m)
        ∧ t.store = s.store ∧ t.changes = s.changes ∧ t.profiles = s.profiles ∧ t.frame = s.frame
        ∧ t.pieces = s.pieces ∧ t.port = s.port ∧ t.now = s.now ∧ t.pending = s.pending

/-- For every state with tables of their sizes and values in range, trackers as the angle and the shaft state ask, lawful
windows and no shared address, ORDINARY_STEP of a direction answers a next state in which each tracker names the region
of the new angle with that heading (R134). A bar is commandable, with the position its entry in the held record gives,
as State.aimFrom says, clamped where blocked from the start point at its last command, which is kept as it is commanded,
so that the target of a MOVE sent stands for the check (R135, R137, R146). Leaving a window finds late each bar of its
profile that has not come to that position: ENGAGED becomes FAULTED, an IDLE one is flagged lead-in late, LATE is raised
for each (R144). A MOVE goes out where the heading turns in a window (R140) or a window is entered (R138), unless the
bar stands there or moves there already: its outstanding move is the position with counts, side, kind and the next tag,
which rises modulo 16, and its frame, with the budget of the time left to the window end going forward with a period and
0 otherwise, takes the place of the MOVE queued for the address or joins the tail, every other frame of the send queue
staying in its place (R153). No other MOVE is sent. Under a hold nothing is sent or checked (R143). All else of the
bars, the ring and the Move Unit stays. That a turn comes before the angle is log 6, that the check of a blocked record
keeps the start point of the command log 37. -/
def Obligations.OrdinaryStepActsInTheWindows : Prop :=
  ∀ (s : State) (ch : Channel), s.sizesLaw → s.trackersLaw → s.windowsLaw → s.addressLaw → s.rangesLaw →
    let d := stepDir s.shaft.levelA s.shaft.levelB ch
    ∃ t : State, exec (.ordinaryStep ch) s = .next t
      ∧ (∀ n ∈ profileNumbers, t.tracker n = { region := (s.profile n).regionAt t.shaft.angle, heading := d })
      ∧ (∀ slot ∈ slots, t.bar slot
          = { (s.bar slot).foundLate (s.stepLate d t.shaft.angle slot) with move := (t.bar slot).move })
      ∧ s.movesSent t (s.stepSent d t.shaft.angle)
      ∧ s.lateRaised t (s.stepLate d t.shaft.angle)
      ∧ t.moves = { s.moves with
          trackers := t.moves.trackers, nextTags := t.moves.nextTags, starts := t.moves.starts }
      ∧ s.startsKept t (s.stepCommands d t.shaft.angle)
      ∧ (∀ slot ∈ slots, s.stepLate d t.shaft.angle slot = false →
          ∀ m ∈ s.stepSent d t.shaft.angle slot, t.standingNow slot = some m.target)
      ∧ (s.moves.heldHold ≠ 0 →
          t.bars = s.bars ∧ t.ring = s.ring ∧ t.moves.nextTags = s.moves.nextTags
            ∧ t.alerts.record 3 = s.alerts.record 3)

/-- For every state with sixteen alert records and every time, FORWARD_COURSE_ENTRY answers a next state. The state before
the entry is the one time has passed in: unchanged where the time is past, the clock and timers alone gone on where no
timer reaches its limit, and with no run and no period where the stall comes first. The Shaft Tracker then is as R4, R8,
R9 and R12 give: angle 0, no overrun, the angle found, FORWARD with the stall timer at 0; a hold count above 0 falls by
1 and C and the period stay; otherwise C rises by 1, or holds at 2,147,483,647, and the period is the run time, at most
4,294,967,295, absent where the run was not clean; the run starts anew. SHAFT_SLIP is raised exactly for a boundary
error above 8 with the angle found and no slip raised. A speed message is wanted once and carries P as it stands after
the entry, or is marked pending. Profiles, the frame, the pages, the port and the queue stay. The model's own choices:
the clock, the time operand and its passing (log 2), the one send of a whole step (log 5), the least period of 1 (log
24). -/
def Obligations.ForwardEntryCountsCourses : Prop :=
  ∀ (s : State) (time : Nat), s.alerts.records.length = 16 →
    let u := s.passUntil time
    (time ≤ s.now → u = s)
      ∧ (s.now < time → (∀ kd ∈ s.timers, time - s.now < kd.2) → u = s.passTime (time - s.now))
      ∧ (∀ left : Nat, s.nextTimer = some (.stall, left) → s.now < time → left ≤ time - s.now →
          u.shaft.runStart = none ∧ u.shaft.period = none)
      ∧ ∃ t : State, exec (.forwardCourseEntry time) s = .next t ∧
        let err :=
          if s.shaft.overrun = 0 then 1023 - s.shaft.angle
          else if s.shaft.overrunSide = .forward then s.shaft.overrun else 1023 + s.shaft.overrun
        let slips := 8 < err ∧ s.shaft.angleFound = true ∧ s.shaft.slipRaised = false
        let run := u.shaft.runStart.map fun start => max 1 (min 4294967295 (t.now - start))
        t.now = max s.now time
          ∧ t.shaft.angle = 0 ∧ t.shaft.overrun = 0 ∧ t.shaft.slipRaised = false ∧ t.shaft.angleFound = true
          ∧ t.shaft.state = .forward ∧ t.shaft.stall = 0 ∧ t.shaft.runStart = some t.now
          ∧ (0 < s.shaft.hold →
              t.shaft.hold = s.shaft.hold - 1 ∧ t.shaft.c = s.shaft.c ∧ t.shaft.period = u.shaft.period)
          ∧ (s.shaft.hold = 0 → s.shaft.c < 2147483647 →
              t.shaft.hold = 0 ∧ t.shaft.c = s.shaft.c + 1 ∧ t.shaft.period = run)
          ∧ (s.shaft.hold = 0 → s.shaft.c = 2147483647 →
              t.shaft.hold = 0 ∧ t.shaft.c = s.shaft.c ∧ t.shaft.period = run)
          ∧ (slips → t.alerts.record 11 = (s.alerts.record 11).raised none (some t.shaft.c))
          ∧ (¬slips → t.alerts.record 11 = s.alerts.record 11)
          ∧ (u.speedLine.sending = none → t.speedLine = { sending := some (speedMessage t.plan.p), again := false })
          ∧ (u.speedLine.sending ≠ none → t.speedLine = { u.speedLine with again := true })
          ∧ t.profiles = s.profiles ∧ t.frame = s.frame ∧ t.port = s.port ∧ t.pending = s.pending
          ∧ t.store.free = s.store.free ∧ t.store.memory = s.store.memory

/-- For every state with tables of their sizes that keeps the tracker law, the plan law and the held law, and every time,
FORWARD_COURSE_ENTRY answers a next state. Where C changed and the queue has a head, the head is the current record, the
queue its rest, and H, a planning in flight and the plan state stay (R120). Where C changed and the queue is empty
(R121), no planning is in flight, H is C, the current record is the one built from the bar records and knit cursors as
they stand after the entry, the plan state is the copy from the knit cursors for C + 1, and STARVED is raised with the
course C exactly where the period is valid; the record built raises TRAVEL or SHOG_LIMIT where it is blocked. Where C
changed and the current record is blocked, BLOCKED_ENTRY is raised with its offending slot and C; where C stayed, the
record and the queue stay and it is not raised, and the plan state stays where nothing was suspended and is the copy
from the knit cursors for C + 1 where planning was suspended, whether the stall on the way or the entry itself ends the
suspension (R114, R124). At every entry OVERSPEED is raised with C exactly where the period is valid and the measured
speed, 60,000,000 / period up to 9999, is above the ceiling of the current record (R122). The Move Unit holds the
current record, with the hold count, and every tracker stands at angle 0 with heading FORWARD (R136, R142). That the
alerts are compared with those before the time passed is log 2. -/
def Obligations.ForwardEntryMovesThePlanOn : Prop :=
  ∀ (s : State) (time : Nat), s.sizesLaw → s.trackersLaw → s.planLaw → s.heldLaw →
    ∃ t : State, exec (.forwardCourseEntry time) s = .next t ∧
      let r := t.plan.current
      let changed := decide (t.shaft.c ≠ s.shaft.c)
      let starved := changed && s.plan.queue.isEmpty
      let fast : Bool := match t.shaft.period with
        | some us => decide (r.ceiling < min 9999 (60000000 / us))
        | none => false
      (t.shaft.c ≠ s.shaft.c → ∀ head rest, s.plan.queue = head :: rest →
          r = head
            ∧ t.plan = { s.plan with current := head, queue := rest, floor := t.plan.floor, p := t.plan.p })
        ∧ (t.shaft.c ≠ s.shaft.c → s.plan.queue = [] →
            r = t.builtRecord ∧ r.course = t.shaft.c
              ∧ t.plan = { s.plan with
                  current := r, queue := [], horizon := t.shaft.c, planning := false, suspended := false
                  planPosition := t.shaft.c + 1, layout := t.advance t.shaft.c t.knitLayout
                  floor := t.plan.floor, p := t.plan.p })
        ∧ (t.shaft.c = s.shaft.c → r = s.plan.current ∧ t.plan.queue = s.plan.queue ∧ t.plan.horizon = s.plan.horizon
            ∧ t.plan.planning = s.plan.planning ∧ t.plan.suspended = false ∧ t.plan.floor = s.plan.floor
            ∧ (s.plan.suspended = false → t.plan.layout = s.plan.layout ∧ t.plan.planPosition = s.plan.planPosition)
            ∧ (s.plan.suspended = true →
                t.plan.layout = t.advance t.shaft.c t.knitLayout ∧ t.plan.planPosition = t.shaft.c + 1))
        ∧ s.raisedWhere t 7 (starved && t.shaft.period.isSome) none
        ∧ s.raisedWhere t 8 (starved && decide (r.cause = .travel)) r.offending
        ∧ s.raisedWhere t 9 (starved && decide (r.cause = .shogLimit ∨ r.cause = .timing)) r.offending
        ∧ s.raisedWhere t 1 (changed && decide (r.cause ≠ .none)) r.offending
        ∧ s.raisedWhere t 2 fast none
        ∧ t.moves = { s.moves with
            held := r, heldHold := t.shaft.hold, trackers := t.moves.trackers, nextTags := t.moves.nextTags
            starts := t.moves.starts }
        ∧ ∀ n ∈ profileNumbers, t.tracker n = { region := (s.profile n).regionAt 0, heading := .forward }

/-- For every state with sixteen alert records that keeps the plan law, REVERSE_COURSE_ENTRY answers a next state with angle
1023, no overrun, the angle found, REVERSE and a broken run. Above the floor C falls by 1 and the hold count stays; at
the floor C stays, the hold count rises by 1 up to 65,535 and REVERSE_FLOOR is raised with the course C. SHAFT_SLIP is
raised, with no slot and the C after the entry, exactly where the boundary error is above 8 with the angle found and no
slip raised: the error is the angle where there is no overrun, the overrun where its side is REVERSE, and 1023 more than
the overrun where it is FORWARD (R6). At every such entry planning is suspended and none is in flight, the queue is
empty and H is C, the rest of the plan staying; the current record is of course C, built from the knit cursors where C
changed and as it was where C stayed. Where it was built and is blocked, BLOCKED_ENTRY and TRAVEL, or SHOG_LIMIT for
SHOG_LIMIT and TIMING, are raised with its offending slot and C (R122, R123). No other alert but LATE is raised; P and
the speed line follow. The sets, the programs, the profiles, the frame, the port, the clock and the queue stay. -/
def Obligations.ReverseEntryStopsAtTheFloor : Prop :=
  ∀ s : State, s.alerts.records.length = 16 → s.planLaw →
    ∃ t : State, exec .reverseCourseEntry s = .next t ∧
      let err :=
        if s.shaft.overrun = 0 then s.shaft.angle
        else if s.shaft.overrunSide = .reverse then s.shaft.overrun else 1023 + s.shaft.overrun
      let slips := decide (8 < err) && s.shaft.angleFound && !s.shaft.slipRaised
      t.shaft.angle = 1023 ∧ t.shaft.overrun = 0 ∧ t.shaft.slipRaised = false ∧ t.shaft.angleFound = true
      ∧ t.shaft.state = .reverse ∧ t.shaft.stall = 0 ∧ t.shaft.period = none ∧ t.shaft.runStart = none
      ∧ (s.plan.floor < s.shaft.c →
          t.shaft.c = s.shaft.c - 1 ∧ t.shaft.hold = s.shaft.hold ∧ t.alerts.record 10 = s.alerts.record 10
            ∧ t.plan.current = t.builtRecord)
      ∧ (s.plan.floor = s.shaft.c →
          t.shaft.c = s.shaft.c ∧ t.shaft.hold = min 65535 (s.shaft.hold + 1)
            ∧ t.alerts.record 10 = (s.alerts.record 10).raised none (some s.shaft.c)
            ∧ t.plan.current = s.plan.current)
      ∧ s.raisedWhere t 11 slips none
      ∧ s.blockedRaised t (decide (t.shaft.c ≠ s.shaft.c)) t.plan.current
      ∧ (∀ kind ∈ [0, 2, 4, 5, 6, 7, 12, 13, 14, 15], t.alerts.record kind = s.alerts.record kind)
      ∧ t.plan = { s.plan with
          suspended := true, planning := false, queue := [], horizon := t.shaft.c, current := t.plan.current
          p := t.plan.p }
      ∧ t.plan.current.course = t.shaft.c
      ∧ s.speedFollows t
      ∧ t.changes = s.changes ∧ t.store = s.store ∧ t.profiles = s.profiles
      ∧ t.frame = s.frame ∧ t.port = s.port ∧ t.now = s.now ∧ t.pending = s.pending

/-- For every lawful state (sizes, trackers, windows, addresses, ranges, plan, held): a forward entry sweeps from the angle
to 1023, a reverse one to 0, with the held record, the heading of the step and the held hold count (R142, R143). A bar
is found late in the first window the sweep leaves whose position, as State.aimLeaving gives it, it has not come to:
FAULTED where ENGAGED, flagged where IDLE; every other bar keeps state and flag (at a forward entry, those no applied
edit names), and LATE is raised once for each bar found late. A MOVE goes out for such a bar as the sweep enters that
window, with the period the entry captured, or as the heading turned in it, unless it moves there already; its
outstanding move, next tag and frame are as at an ordinary step, no other MOVE is sent, and every other queued frame
stays in its place. A bar that stands at the positions of every window left is neither moved nor late; from an angle at
or beyond every ue, or below every os in reverse, the sweep does nothing. The state before a forward entry is the one
time has passed in (log 2). The start point of each bar commanded is kept, and of no other. Two trackers' order is log
6, the start point kept for the check log 37. -/
def Obligations.CourseEntriesSweepTheWindows : Prop :=
  ∀ s : State, s.sizesLaw → s.trackersLaw → s.windowsLaw → s.addressLaw → s.rangesLaw → s.planLaw → s.heldLaw →
    (∀ time : Nat,
      let u := s.passUntil time
      let late (slot : Nat) : Bool := (u.sweepLate .forward slot).isSome
      ∃ t : State, exec (.forwardCourseEntry time) s = .next t
        ∧ (∀ slot ∈ slots, (t.shaft.c = s.shaft.c ∨ s.namedAt t.shaft.c slot = false) →
            t.bar slot
              = { (u.bar slot).foundLate (late slot) with move := (t.bar slot).move, cursor := (t.bar slot).cursor })
        ∧ u.movesSent t (u.sweepSent .forward t.shaft.period)
        ∧ u.startsKept t (u.sweepCommands .forward)
        ∧ u.lateRaised t late
        ∧ ((∀ p ∈ s.profiles, p.ue ≤ s.shaft.angle) → ∀ slot ∈ slots, late slot = false))
    ∧ ∃ t : State, exec .reverseCourseEntry s = .next t ∧
        let late (slot : Nat) : Bool := (s.sweepLate .reverse slot).isSome
        (∀ slot ∈ slots, t.bar slot
            = { (s.bar slot).foundLate (late slot) with move := (t.bar slot).move, cursor := (t.bar slot).cursor })
          ∧ s.movesSent t (s.sweepSent .reverse none)
          ∧ s.startsKept t (s.sweepCommands .reverse)
          ∧ s.lateRaised t late
          ∧ ((∀ p ∈ s.profiles, s.shaft.angle < p.os) → ∀ slot ∈ slots, late slot = false)

/-- For every state with sixteen alert records: at a forward entry and at a reverse entry, a counter that is PAUSED, or any
counter at an entry that leaves C, stays whole. While COUNTING, a forward entry that changes C reloads a count of 1 from
the preload, counts a piece up to 65,535 and raises PIECE_END with no slot and the course C after the entry; a count
above 1 falls by 1. A reverse entry that changes C raises a count below the preload by 1 and leaves any other. PIECE_END
is raised at no other of these entries. -/
def Obligations.PieceCounterActsAtEntries : Prop :=
  ∀ s : State, s.alerts.records.length = 16 →
    (∀ time : Nat, ∃ t : State, exec (.forwardCourseEntry time) s = .next t
      ∧ (s.pieces.state = .paused ∨ t.shaft.c = s.shaft.c →
          t.pieces = s.pieces ∧ t.alerts.record 13 = s.alerts.record 13)
      ∧ (s.pieces.state = .counting → t.shaft.c ≠ s.shaft.c → s.pieces.count = 1 →
          t.pieces = { s.pieces with count := s.pieces.preload, pieces := min 65535 (s.pieces.pieces + 1) }
            ∧ t.alerts.record 13 = (s.alerts.record 13).raised none (some t.shaft.c))
      ∧ (s.pieces.state = .counting → t.shaft.c ≠ s.shaft.c → 1 < s.pieces.count →
          t.pieces = { s.pieces with count := s.pieces.count - 1 } ∧ t.alerts.record 13 = s.alerts.record 13))
    ∧ ∃ t : State, exec .reverseCourseEntry s = .next t ∧ t.alerts.record 13 = s.alerts.record 13
      ∧ (s.pieces.state = .paused ∨ t.shaft.c = s.shaft.c → t.pieces = s.pieces)
      ∧ (s.pieces.state = .counting → t.shaft.c ≠ s.shaft.c → s.pieces.count < s.pieces.preload →
          t.pieces = { s.pieces with count := s.pieces.count + 1 })
      ∧ (s.pieces.state = .counting → t.shaft.c ≠ s.shaft.c → s.pieces.preload ≤ s.pieces.count →
          t.pieces = s.pieces)

/-- For every state and slot: at a forward entry that changes C, the knit cursor of a slot that no set of that effective
course names takes one forward step; at a reverse entry that changes C every knit cursor takes one reverse step; at an
entry that leaves C every knit cursor stays. A slot without a cursor has none after. -/
def Obligations.KnitCursorsFollowTheCourse : Prop :=
  ∀ (s : State) (slot : Nat), slot < 64 →
    (∀ time : Nat, ∃ t : State, exec (.forwardCourseEntry time) s = .next t
      ∧ (t.shaft.c = s.shaft.c → (t.bar slot).cursor = (s.bar slot).cursor)
      ∧ (t.shaft.c ≠ s.shaft.c → s.namedAt t.shaft.c slot = false →
          (t.bar slot).cursor = (s.bar slot).cursor.map s.stepForward))
    ∧ ∃ t : State, exec .reverseCourseEntry s = .next t
      ∧ (t.shaft.c = s.shaft.c → (t.bar slot).cursor = (s.bar slot).cursor)
      ∧ (t.shaft.c ≠ s.shaft.c → (t.bar slot).cursor = (s.bar slot).cursor.map s.stepReverse)

/-- For every state with no hold and C below its end that keeps the laws of sizes, trackers, windows and ranges. Where the
set at the head of the commit list alone has E = C + 1, with edits in order naming slots of the table:
FORWARD_COURSE_ENTRY answers a next state in which that set is FREE and off the list, the other sets stay, the reverse
floor is the new C and SET_APPLIED is raised with it. Each named record takes its edit's assignment and limits; its knit
cursor is the placement of a LEAD edit and absent otherwise; its pinned and lead-in late flags become no unless a set
left on the list names it. LEAD or FOLLOW takes an IDLE bar to FAULTED where it is lead-in late, flagged before or found
late by this entry's sweep, and to ENGAGED where it is not; BINDING to REBINDING; an ENGAGED bar stays ENGAGED unless
the sweep faults it, FAULTED and REBINDING stay. WITHDRAWN takes ENGAGED, FAULTED and IDLE to IDLE, REBINDING and
BINDING to BINDING. Each program loses a reference for each LEAD edit of the set and for each record that no longer
leads it, and gains one for each record that comes to lead it (R55). A record no edit names keeps assignment, limits and
pin. Two sets of one E both apply, in commit order, the second over the first, and raise SET_APPLIED twice. The state
before the entry is the one time has passed in (log 2); the sweep's check is that of log 37. -/
def Obligations.EntryOfEAppliesTheSet : Prop :=
  ∀ (s : State) (time : Nat), s.sizesLaw → s.trackersLaw → s.windowsLaw → s.rangesLaw → s.shaft.hold = 0 →
    s.shaft.c < 2147483647 →
    let e := s.shaft.c + 1
    let u := s.passUntil time
    let placed (a : EditAssignment) : Option Cursor :=
      match a with
      | .lead program entry => s.place program entry
      | .follow _ _ _ => none
      | .withdrawn => none
    (∀ (n : Nat) (rest : List Nat) (edits : KMap Edit), s.changes.commitList = n :: rest → n ∉ rest →
      n < s.changes.sets.length → s.changeSet n = .committed edits e → (∀ m ∈ rest, s.effectiveCourse m ≠ e) →
      edits.wf = true → (∀ slot ∈ edits.keys, slot < 64) →
      ∃ t : State, exec (.forwardCourseEntry time) s = .next t
        ∧ t.changes = { sets := s.changes.sets.set n .free, commitList := rest }
        ∧ t.plan.floor = e
        ∧ t.alerts.record 15 = (s.alerts.record 15).raised none (some e)
        ∧ (∀ slot, edits.find slot = none →
            (t.bar slot).assignment = (s.bar slot).assignment ∧ (t.bar slot).low = (s.bar slot).low
              ∧ (t.bar slot).high = (s.bar slot).high ∧ (t.bar slot).pinned = (s.bar slot).pinned)
        ∧ (∀ slot edit, edits.find slot = some edit →
            let a := edit.assignment
            let before := (u.bar slot).state
            let after := (t.bar slot).state
            let found := (u.sweepLate .forward slot).isSome
            let named := rest.any fun m => (s.committedEdits m).has slot
            (t.bar slot).assignment = a.made
              ∧ ((t.bar slot).low, (t.bar slot).high) = edit.limits.getD ((s.bar slot).low, (s.bar slot).high)
              ∧ (t.bar slot).cursor = placed a
              ∧ (named = false → (t.bar slot).pinned = false ∧ (t.bar slot).leadInLate = false)
              ∧ (named = true → (t.bar slot).pinned = (s.bar slot).pinned)
              ∧ (a ≠ .withdrawn → before = .idle → (u.bar slot).leadInLate = true ∨ found = true → after = .faulted)
              ∧ (a ≠ .withdrawn → before = .idle → (u.bar slot).leadInLate = false → found = false → after = .engaged)
              ∧ (a ≠ .withdrawn → before = .engaged → after = if found then .faulted else .engaged)
              ∧ (a ≠ .withdrawn → before = .faulted → after = .faulted)
              ∧ (a ≠ .withdrawn → before = .binding ∨ before = .rebinding → after = .rebinding)
              ∧ (a = .withdrawn → before = .engaged ∨ before = .faulted ∨ before = .idle → after = .idle)
              ∧ (a = .withdrawn → before = .rebinding ∨ before = .binding → after = .binding))
        ∧ ∀ m info, s.sealOf m = some info →
            let leads (slot : Nat) : Bool := (s.bar slot).assignment.program == some m
            let listed := edits.cells.countP fun ke => ke.2.program == some m
            let loses := edits.cells.countP fun ke => leads ke.1 && ke.2.program != some m
            let gains := edits.cells.countP fun ke => !leads ke.1 && ke.2.program == some m
            listed + loses ≤ info.refs →
              t.sealOf m = some { info with refs := info.refs + gains - loses - listed })
      ∧ ∀ (n k : Nat) (first second : KMap Edit), s.changes.commitList = [n, k] → n ≠ k →
        n < s.changes.sets.length → k < s.changes.sets.length → s.changeSet n = .committed first e →
        s.changeSet k = .committed second e → first.wf = true → second.wf = true →
        (∀ slot ∈ first.keys ++ second.keys, slot < 64) →
        ∃ t : State, exec (.forwardCourseEntry time) s = .next t
          ∧ t.changes = { sets := (s.changes.sets.set n .free).set k .free, commitList := [] }
          ∧ t.plan.floor = e
          ∧ t.alerts.record 15 = ((s.alerts.record 15).raised none (some e)).raised none (some e)
          ∧ ∀ slot, ∀ edit ∈ (second.find slot).or (first.find slot),
              (t.bar slot).assignment = edit.assignment.made ∧ (t.bar slot).cursor = placed edit.assignment
                ∧ ((t.bar slot).low, (t.bar slot).high)
                  = (((second.find slot).bind (·.limits)).or ((first.find slot).bind (·.limits))).getD
                      ((s.bar slot).low, (s.bar slot).high)
                ∧ (t.bar slot).pinned = false ∧ (t.bar slot).leadInLate = false

/-- An emergency input that becomes active sets the halt latch, raises EMERGENCY with no slot and the course C, asserts the
stop line and takes P to 0, with a speed message wanted where P changed; nothing else changes. One already active
changes nothing. One that becomes inactive has its level recorded and nothing else. The end of a speed message begins a
pending one, which holds P as it stands, and ends the line's work otherwise. That an input already active, and a message
end with none being sent, change nothing is the model's choice (log 3). -/
def Obligations.EmergencyAndSpeedLine : Prop :=
  ∀ s : State,
    (s.alerts.records.length = 16 → s.alerts.emergencyActive = false →
      ∃ t : State, exec .emergencyInputActive s = .next t
        ∧ t.alerts.emergencyActive = true ∧ t.alerts.haltLatch = true ∧ t.alerts.stop = true
        ∧ t.alerts.levels = s.alerts.levels ∧ t.alerts.threshold = s.alerts.threshold ∧ t.linesLaw
        ∧ t.alerts.records = s.alerts.records.set 0 ((s.alerts.record 0).raised none (some s.shaft.c))
        ∧ t.speedLine = (if s.plan.p = 0 then s.speedLine
            else if s.speedLine.sending = none then { sending := some (speedMessage 0), again := false }
            else { s.speedLine with again := true })
        ∧ t = { s with alerts := t.alerts, plan := { s.plan with p := 0 }, speedLine := t.speedLine })
    ∧ (s.alerts.emergencyActive = true → exec .emergencyInputActive s = .next s)
    ∧ exec .emergencyInputInactive s = .next { s with alerts := { s.alerts with emergencyActive := false } }
    ∧ (s.speedLine.sending = none → exec .speedMessageEnd s = .next s)
    ∧ (s.speedLine.sending ≠ none → s.speedLine.again = false →
        exec .speedMessageEnd s = .next { s with speedLine := { sending := none, again := false } })
    ∧ (s.speedLine.sending ≠ none → s.speedLine.again = true →
        exec .speedMessageEnd s
          = .next { s with speedLine := { sending := some (speedMessage s.plan.p), again := false } })

/-- PLANNING_START answers the state with the planning of H + 1 in flight, and F one higher, exactly where the frame is
written, planning is neither suspended nor in flight, the queue holds fewer than 32 records and H + 1 is at most
2,147,483,647; otherwise the state stays. PLANNING_END of a planning in flight answers a next state in which the record
of H + 1 stands at the tail of the queue, H has risen by 1, the plan position is H + 2, the plan state is the advance, F
is as before, and a blocked record has raised TRAVEL, or SHOG_LIMIT for SHOG_LIMIT and TIMING, with its offending slot
and course; P is the permitted speed and nothing but the plan, the alerts and the speed line has changed. Without a
planning in flight it changes nothing (log 3). An advance of a layout from course k to k + 1 (R113), the edits of each
set in slot order: where a set of the commit list with E = k + 1 names a slot, the last such edit in commit order gives
its assignment, places its plan cursor where it is a LEAD and lets it go where not, and the last limits carried stand; a
plan cursor that no such edit names takes one forward step, and the slot's configuration stays. The layout of the bar
records holds each one's knit cursor, assignment and limits (R114); the record built from them is formed with it and its
advance, and has no entries and ceiling 0 while the frame is unwritten (R123). That begin and end are commands of their
own is the model's choice (log 18). -/
def Obligations.PlanningBeginsAndEnds : Prop :=
  ∀ s : State,
    (s.frame ≠ none → s.plan.suspended = false → s.plan.planning = false → s.plan.queue.length < 32 →
      s.plan.horizon + 1 ≤ 2147483647 →
      ∃ t : State, exec .planningStart s = .next t ∧ t = { s with plan := { s.plan with planning := true } }
        ∧ t.plan.f = s.plan.f + 1)
    ∧ (s.frame = none ∨ s.plan.suspended = true ∨ s.plan.planning = true ∨ 32 ≤ s.plan.queue.length
        ∨ 2147483647 < s.plan.horizon + 1 → exec .planningStart s = .next s)
    ∧ (s.plan.planning = false → exec .planningEnd s = .next s)
    ∧ (s.alerts.records.length = 16 → s.plan.planning = true →
      ∃ t : State, exec .planningEnd s = .next t
        ∧ t.plan = { s.plan with
            queue := s.plan.queue ++ [s.plannedRecord]
            horizon := s.plan.horizon + 1
            planning := false
            planPosition := s.plan.horizon + 2
            layout := s.advance (s.plan.horizon + 1) s.plan.layout
            p := t.permittedSpeed }
        ∧ s.plannedRecord
            = s.formRecord (s.plan.horizon + 1) s.plan.layout (s.advance (s.plan.horizon + 1) s.plan.layout)
        ∧ s.plannedRecord.course = s.plan.horizon + 1
        ∧ t.plan.f = s.plan.f
        ∧ (s.plannedRecord.cause = .none → t.alerts = s.alerts)
        ∧ (s.plannedRecord.cause = .travel →
            s.alertRaised t 8 s.plannedRecord.offending (some (s.plan.horizon + 1)))
        ∧ (s.plannedRecord.cause = .shogLimit ∨ s.plannedRecord.cause = .timing →
            s.alertRaised t 9 s.plannedRecord.offending (some (s.plan.horizon + 1)))
        ∧ s.speedFollows t
        ∧ t = { s with plan := t.plan, alerts := t.alerts, speedLine := t.speedLine })
    ∧ (∀ (k : Nat) (l : Layout) (slot : Nat), slot < l.config.length →
        (∀ n ∈ s.changes.commitList, (s.committedEdits n).wf = true) →
      let applying := s.changes.commitList.filter fun n => (s.changeSet n).appliesAt (k + 1)
      let edits := applying.filterMap fun n => (s.committedEdits n).find slot
      let before := l.config.getD slot coldConfig
      let after := (s.advance k l).config.getD slot coldConfig
      ((s.advance k l).cursors.find slot = match edits.getLast? with
        | none => (l.cursors.find slot).map s.stepForward
        | some edit => match edit.assignment with
          | .lead program entry => s.place program entry
          | .follow _ _ _ => none
          | .withdrawn => none)
        ∧ after.assignment = ((edits.getLast?.map fun edit => edit.assignment.made).getD before.assignment)
        ∧ (after.low, after.high) = (edits.filterMap (·.limits)).getLast?.getD (before.low, before.high)
        ∧ (s.advance k l).config.length = l.config.length)
    ∧ (∀ slot ∈ slots, s.bars.length = 64 →
        s.knitLayout.cursors.find slot = (s.bar slot).cursor
          ∧ s.knitLayout.config.getD slot coldConfig
            = { assignment := (s.bar slot).assignment, low := (s.bar slot).low, high := (s.bar slot).high })
    ∧ (s.frame ≠ none →
        s.builtRecord = s.formRecord s.shaft.c s.knitLayout (s.advance s.shaft.c s.knitLayout))
    ∧ (s.frame = none →
        s.builtRecord = { course := s.shaft.c, ceiling := 0, cause := .none, offending := none, entries := [] })

/-- For every course and pair of layouts, the record formed names the course, and its entries stand in slot order. Every bar
that takes part has one entry: engaged at k and k + 1, the role of its assignment at k, its pair at k, u the a of its
pair at k + 1 and d_u = |u - b|; engaged at k alone, the same with u = b and d_u = 0; engaged at k + 1 alone, LEADIN
with no a and b, u the a of k + 1 and d_u = |u - position|. A bar engaged at neither has none, and no entry is of
another form. The record's cause is TRAVEL where some entry's a or b lies outside 0..511 or the limits at k, or its u
outside them or the limits at k + 1; else SHOG_LIMIT where a shog exceeds the shog_max of its bar's profile; else TIMING
where an entry ceiling is below 10; each with ceiling 0 and the lowest slot that fails; else none, with the least of
S_max and the entry ceilings. Without entries the ceiling is S_max. -/
def Obligations.BlockingAndCeilingOfARecord : Prop :=
  ∀ (s : State) (k : Nat) (now next : Layout),
    let r := s.formRecord k now next
    let cfg (l : Layout) (e : Entry) := l.config.getD e.slot coldConfig
    let inside (x low high : Int) : Prop := 0 ≤ x ∧ x ≤ 511 ∧ low ≤ x ∧ x ≤ high
    let travel (e : Entry) : Prop :=
      (∃ a b, e.pair = some (a, b)
          ∧ ¬(inside a (cfg now e).low (cfg now e).high ∧ inside b (cfg now e).low (cfg now e).high))
        ∨ ¬inside e.u (cfg now e).low (cfg now e).high ∨ ¬inside e.u (cfg next e).low (cfg next e).high
    let shog (e : Entry) : Prop :=
      (s.profileOf e).shogMax < e.dU ∨ ∃ a b, e.pair = some (a, b) ∧ (s.profileOf e).shogMax < (b - a).natAbs
    let slow (e : Entry) : Prop := e.ceiling (s.profileOf e) s.sMax < 10
    let blockedFor (fails : Entry → Prop) (cause : Cause) : Prop :=
      r.cause = cause ∧ r.ceiling = 0
        ∧ ∃ e ∈ r.entries, r.offending = some e.slot ∧ fails e ∧ ∀ e' ∈ r.entries, fails e' → e.slot ≤ e'.slot
    r.course = k
      ∧ r.entries.Pairwise (fun d e => d.slot < e.slot)
      ∧ (∀ slot ∈ slots,
          let mine := r.entries.filter fun e => e.slot == slot
          let role : Role :=
            match (now.config.getD slot coldConfig).assignment with
            | .lead _ => .lead
            | .follow _ _ _ => .follow
            | .none => .leadin
          (∀ a b a' b' : Int, now.engages slot = true → next.engages slot = true → s.pairIn now slot = some (a, b) →
              s.pairIn next slot = some (a', b') →
              mine = [{ slot, role, pair := some (a, b), u := a', dU := (a' - b).natAbs }])
            ∧ (∀ a b : Int, now.engages slot = true → next.engages slot = false → s.pairIn now slot = some (a, b) →
              mine = [{ slot, role, pair := some (a, b), u := b, dU := 0 }])
            ∧ (∀ a' b' : Int, now.engages slot = false → next.engages slot = true → s.pairIn next slot = some (a', b') →
              mine = [{ slot, role := .leadin, pair := none, u := a', dU := (a' - (s.bar slot).position).natAbs }])
            ∧ (now.engages slot = false → next.engages slot = false → mine = []))
      ∧ (∀ e ∈ r.entries, e.slot < 64)
      ∧ (∀ e ∈ r.entries, e.role = .leadin →
          now.engages e.slot = false ∧ next.engages e.slot = true ∧ e.pair = none
            ∧ e.dU = (e.u - (s.bar e.slot).position).natAbs)
      ∧ (∀ e ∈ r.entries, e.role ≠ .leadin → now.engages e.slot = true ∧ e.pair = s.pairIn now e.slot ∧
          ∃ a b, e.pair = some (a, b) ∧ (next.engages e.slot = true → e.dU = (e.u - b).natAbs)
            ∧ (next.engages e.slot = false → e.u = b ∧ e.dU = 0))
      ∧ ((∃ e ∈ r.entries, travel e) → blockedFor travel .travel)
      ∧ ((∀ e ∈ r.entries, ¬travel e) → (∃ e ∈ r.entries, shog e) → blockedFor shog .shogLimit)
      ∧ ((∀ e ∈ r.entries, ¬travel e ∧ ¬shog e) → (∃ e ∈ r.entries, slow e) → blockedFor slow .timing)
      ∧ ((∀ e ∈ r.entries, ¬travel e ∧ ¬shog e ∧ ¬slow e) →
          r.cause = .none ∧ r.offending = none ∧ r.ceiling ≤ s.sMax
            ∧ (∀ e ∈ r.entries, r.ceiling ≤ e.ceiling (s.profileOf e) s.sMax)
            ∧ (r.ceiling = s.sMax ∨ ∃ e ∈ r.entries, r.ceiling = e.ceiling (s.profileOf e) s.sMax))

/-- For every S_max, window width W and required time: for t_req 0 the window ceiling is S_max. For t_req above 0 there is a
whole N with 32 x t_req x N at most 1,875,000 x W, the greatest such, and the window ceiling is N, or S_max where N
comes out above it. For an entry under a profile, the two ceilings reckoned are that of d_o in oe - os and that of d_u
in ue - us; an entry without a pair, which a LEADIN is, has the second alone. -/
def Obligations.WindowCeilingIsTheGreatestSpeed : Prop :=
  (∀ sMax w : Nat, windowCeiling sMax w 0 = sMax)
    ∧ (∀ sMax w tReq : Nat, 0 < tReq →
        ∃ n : Nat, 32 * tReq * n ≤ 1875000 * w ∧ (∀ v : Nat, 32 * tReq * v ≤ 1875000 * w → v ≤ n)
          ∧ windowCeiling sMax w tReq = if sMax < n then sMax else n)
    ∧ ∀ (e : Entry) (p : Profile) (sMax : Nat),
        (e.pair = none → e.ceiling p sMax = windowCeiling sMax (p.ue - p.us) (p.requiredTime e.dU))
          ∧ ∀ a b : Int, e.pair = some (a, b) →
              e.ceiling p sMax
                = min (windowCeiling sMax (p.oe - p.os) (p.requiredTime (b - a).natAbs))
                    (windowCeiling sMax (p.ue - p.us) (p.requiredTime e.dU))

/-- For every d from 1 to 511 and every profile with t_acc in 100..20,000 and t_ns in 50..5000: where d x t_ns is at least
t_acc the move time is d x t_ns + t_acc; below it the move time m is the whole number with (m - 1) x (m - 1) < 4 x d x
t_acc x t_ns <= m x m, at most d x t_ns + t_acc and at most 2 x t_acc. The product is at most 204,400,000,000, and at
most 102,000,000,000 for d up to 255; the move time is at most 2,575,000 microseconds. It rises from d to d + 1, and two
profiles with the same t_acc and t_ns give the same time for the same d. -/
def Obligations.MoveTimeIsExact : Prop :=
  ∀ (p : Profile) (d : Nat), 1 ≤ d → d ≤ 511 → 100 ≤ p.tAcc → p.tAcc ≤ 20000 → 50 ≤ p.tNs → p.tNs ≤ 5000 →
    (p.tAcc ≤ d * p.tNs → p.moveTime d = d * p.tNs + p.tAcc)
      ∧ (d * p.tNs < p.tAcc →
          (p.moveTime d - 1) * (p.moveTime d - 1) < 4 * d * p.tAcc * p.tNs
            ∧ 4 * d * p.tAcc * p.tNs ≤ p.moveTime d * p.moveTime d
            ∧ p.moveTime d ≤ d * p.tNs + p.tAcc ∧ p.moveTime d ≤ 2 * p.tAcc)
      ∧ 4 * d * p.tAcc * p.tNs ≤ 204400000000
      ∧ (d ≤ 255 → 4 * d * p.tAcc * p.tNs ≤ 102000000000)
      ∧ p.moveTime d ≤ 2575000
      ∧ (d < 511 → p.moveTime d < p.moveTime (d + 1))
      ∧ ∀ q : Profile, q.tAcc = p.tAcc → q.tNs = p.tNs → q.moveTime d = p.moveTime d

/-- For every gauge 5..40 and trim -2000..2000: the target counts of a position 0..511 are floor((2 x p x 254,000 + E) / (2
x E)) + t, p x 254,000 / E rounded to the nearest with a half up, and lie in -2000..25,960,800; the inverse gives p
back. For every c the inverse is floor((2 x (c - t) x E + 254,000) / 508,000) clamped to 0..511; unclamped it is the
position whose span of half a needle space on either side holds c - t. A move that is sent holds the counts of its
target under the gauge and trim as they stand, and a later SET_TRIM leaves every outstanding move. -/
def Obligations.CountConversions : Prop :=
  (∀ (gauge : Nat) (trim : Int), 5 ≤ gauge → gauge ≤ 40 → -2000 ≤ trim → trim ≤ 2000 →
    (∀ p : Int, 0 ≤ p → p ≤ 511 →
      targetCounts gauge trim p = (2 * p * 254000 + gauge) / (2 * gauge) + trim
        ∧ 2 * gauge * (targetCounts gauge trim p - trim) ≤ 2 * p * 254000 + gauge
        ∧ 2 * p * 254000 + gauge < 2 * gauge * (targetCounts gauge trim p - trim + 1)
        ∧ -2000 ≤ targetCounts gauge trim p ∧ targetCounts gauge trim p ≤ 25960800
        ∧ countsToPosition gauge trim (targetCounts gauge trim p) = p)
    ∧ ∀ c : Int, ∃ p : Int, p = (2 * (c - trim) * gauge + 254000) / 508000
        ∧ p * 508000 - 254000 ≤ 2 * (c - trim) * gauge ∧ 2 * (c - trim) * gauge < p * 508000 + 254000
        ∧ countsToPosition gauge trim c = if p < 0 then 0 else if 511 < p then 511 else p)
    ∧ (∀ (s : State) (slot : Nat) (target : Int) (side : Side) (kind : MoveKind) (budget : Nat), slot < s.bars.length →
        ((s.sendMove slot target side kind budget).bar slot).move
          = some { tag := s.nextTag slot, target, counts := targetCounts s.gauge (s.bar slot).trim target, side, kind })
    ∧ ∀ (s t : State) (slot : Byte) (trim : BitVec 16), exec (.setTrim slot trim) s = .next t →
        ∀ n : Nat, (t.bar n).move = (s.bar n).move

/-- The CRC of any bytes followed by their check byte is 0. Two runs of bytes that differ in one byte alone have different
CRCs, so a sound frame with one byte changed is not sound. The check byte of the MARKER with sequence 0 is 10. -/
def Obligations.CheckByteCatchesAChangedByte : Prop :=
  (∀ bytes : List Byte, crc (withCheck bytes) = 0)
    ∧ (∀ (pre post : List Byte) (b b' : Byte), b ≠ b' → crc (pre ++ b :: post) ≠ crc (pre ++ b' :: post))
    ∧ (∀ (pre post : List Byte) (b b' : Byte), b ≠ b' → frameSound (pre ++ b :: post) = true →
        frameSound (pre ++ b' :: post) = false)
    ∧ crc (markerBytes 0) = 10

/-- For every state where P is the permitted speed: bytes that fail the check of length, kind or check byte change nothing,
whatever row they come under. A BIND_ACK, DONE or FAULT changes nothing while the ring is not UP, or where no bound-side
record holds its address. A MARKER, BIND, UNBIND or MOVE that comes home changed, with a sequence of no transit entry,
or more than 1000 microseconds after the sending of the entry it is equal to, changes nothing. -/
def Obligations.RingInputDiscards : Prop :=
  ∀ s : State, s.speedLaw →
    (∀ bytes : List Byte, frameSound bytes = false →
      exec (.markerReturn bytes) s = .next s ∧ exec (.partFrameReturn bytes) s = .next s
        ∧ exec (.bindAck bytes) s = .next s ∧ exec (.done bytes) s = .next s ∧ exec (.fault bytes) s = .next s)
    ∧ (∀ (address x : Byte) (counts : BitVec 32), s.ring.state ≠ .up ∨ s.slotOfAddress address.toNat = none →
        exec (.bindAck (bindAckFrame address x counts)) s = .next s
          ∧ exec (.done (doneFrame address x counts)) s = .next s
          ∧ exec (.fault (faultFrame address x)) s = .next s)
    ∧ ∀ bytes : List Byte, partFrameKind bytes = true → 
        (∀ x ∈ s.ring.transit, x.bytes = bytes → bytes[2]? = some x.seq → x.sentAt + 1000 < s.now) →
        exec (.markerReturn bytes) s = .next s ∧ exec (.partFrameReturn bytes) s = .next s

/-- For every state with the ring UP and a slot that holds the DONE's address bound-side: where the bar has no outstanding
move, or one with another tag, nothing changes (P being the permitted speed). Where the tag is that of the move: within
tolerance the position is the move's target and POSITION is not raised; outside it the position is the inverse
conversion of the counts and POSITION is raised with the slot and C. An ENGAGED bar of a PATTERN move outside tolerance
becomes FAULTED; a FAULTED bar of a RECOVERY move within it becomes ENGAGED with BAR_READY; any other bar keeps its
state. The move is cleared; only the rejoining bar, standing at its target, is commanded anew at once where the tracker
of its profile stands in a window that asks another position of it, as at the entry of that window with the budget of
the angle: its outstanding move, its next tag and its one MOVE in the send queue follow, every other frame staying in
its place; outside the windows, under a hold or at that position nothing is sent (R141). A bar come within tolerance to
the target that stands for it in its window is not late at the next leaving with that heading, under a blocked record
too (R146; log 37). Every other bar, every other block but the alerts, the ring and the Move Unit of a rejoining bar, P
and the speed line stay. The lead-in late flag stays too, whatever the counts (log 38). -/
def Obligations.DoneSettlesItsMove : Prop :=
  ∀ (s : State) (slot : Nat) (address tag : Byte) (counts : BitVec 32),
    s.bars.length = 64 → s.alerts.records.length = 16 → s.ring.state = .up → s.slotOfAddress address.toNat = some slot →
    (s.speedLaw → (∀ m, (s.bar slot).move = some m → m.tag ≠ tag.toNat) →
      exec (.done (doneFrame address tag counts)) s = .next s)
    ∧ ∀ m, (s.bar slot).move = some m → m.tag = tag.toNat →
      ∃ t : State, exec (.done (doneFrame address tag counts)) s = .next t ∧
        let within := (counts.toInt - m.counts).natAbs ≤ s.tolerance
        let rejoins := m.kind = .recovery ∧ within ∧ (s.bar slot).state = .faulted
        (t.bar slot).position = (if within then m.target else countsToPosition s.gauge (s.bar slot).trim counts.toInt)
          ∧ (t.bar slot).state
              = (if m.kind = .pattern ∧ ¬within ∧ (s.bar slot).state = .engaged then .faulted
                else if rejoins then .engaged else (s.bar slot).state)
          ∧ { t.bar slot with
                state := (s.bar slot).state, move := (s.bar slot).move, position := (s.bar slot).position } = s.bar slot
          ∧ (∀ n, n ≠ slot → t.bar n = s.bar n)
          ∧ (¬rejoins → (t.bar slot).move = none ∧ t.ring = s.ring ∧ t.moves = s.moves)
          ∧ (within → ¬rejoins → t.alerts = s.alerts)
          ∧ (rejoins → s.moves.nextTags.length = 64 → s.moves.starts.length = 64 →
              let u : State := { s with
                bars := s.bars.set slot { s.bar slot with move := none, position := m.target, state := .engaged } }
              u.movesSent t (fun n => if n = slot then u.sentAtOnce slot else none)
                ∧ u.startsKept t (fun n => decide (n = slot) && u.commandsAtOnce slot)
                ∧ t.moves = { s.moves with nextTags := t.moves.nextTags, starts := t.moves.starts })
          ∧ (within → m.kind ≠ .recovery → s.standingNow slot = some m.target → s.trackersLaw →
              ∀ angle, t.stepLate (s.tracker (s.bar slot).profile).heading angle slot = false)
          ∧ (rejoins → s.alertRaised t 14 (some slot) (some s.shaft.c))
          ∧ (¬within → s.alertRaised t 4 (some slot) (some s.shaft.c))
          ∧ s.speedFollows t
          ∧ t = { s with
              bars := t.bars, ring := t.ring, moves := t.moves, alerts := t.alerts
              plan := { s.plan with p := t.plan.p }, speedLine := t.speedLine }

/-- For every state with the ring UP and a slot that holds the frame's address bound-side: a BIND_ACK carrying another slot,
or reaching an IDLE, ENGAGED or FAULTED bar, changes nothing (P being the permitted speed). A BINDING bar becomes IDLE
and BAR_READY is raised with the slot and C; a REBINDING one becomes FAULTED and nothing is raised. The position is the
inverse conversion of the counts, the attempt is absent, no BIND of the slot is queued, the other attempts stay. Every
other queued frame stays in its place. A BINDING bar is commanded at once by its lead-in entry where the tracker of its
profile stands in the underlap window heading FORWARD, no hold stands and it is not at the lead-in position: its MOVE is
queued with the budget of the angle, and nothing else is sent (R141; that this too is a case of it is log 9); the
REBINDING bar's other fields and the Move Unit stay. Every other bar and every other block stay, P and the speed line
following. FAULT answers a next state in which that bar's last drive fault is the code carried, its state is FAULTED
where it was ENGAGED and as before otherwise, DRIVE_FAULT is raised with the slot and C, P and the speed line follow,
and nothing else has changed, the outstanding move included. -/
def Obligations.BindAckAndFaultFrames : Prop :=
  (∀ (s : State) (slot : Nat) (address carried : Byte) (counts : BitVec 32),
    s.bars.length = 64 → s.alerts.records.length = 16 → s.ring.state = .up → s.slotOfAddress address.toNat = some slot →
    (s.speedLaw → carried.toNat ≠ slot ∨ (s.bar slot).state = .idle ∨ (s.bar slot).state = .engaged
        ∨ (s.bar slot).state = .faulted →
      exec (.bindAck (bindAckFrame address carried counts)) s = .next s)
    ∧ (carried.toNat = slot → (s.bar slot).state = .binding ∨ (s.bar slot).state = .rebinding →
      ∃ t : State, exec (.bindAck (bindAckFrame address carried counts)) s = .next t
        ∧ (t.bar slot).position = countsToPosition s.gauge (s.bar slot).trim counts.toInt
        ∧ ((s.bar slot).state = .binding →
            (t.bar slot).state = .idle ∧ s.alertRaised t 14 (some slot) (some s.shaft.c))
        ∧ ((s.bar slot).state = .rebinding →
            (t.bar slot).state = .faulted ∧ t.alerts = s.alerts ∧ (t.bar slot).move = (s.bar slot).move
              ∧ t.moves = s.moves
              ∧ t.ring = { s.ring with
                  attempts := s.ring.attempts.del slot, queue := s.ring.queue.filter fun q => !q.isBindOf slot })
        ∧ ((s.bar slot).state = .binding → s.moves.nextTags.length = 64 → s.moves.starts.length = 64 →
            let u : State := { s with
              bars := s.bars.set slot
                { s.bar slot with position := countsToPosition s.gauge (s.bar slot).trim counts.toInt, state := .idle }
              ring := { s.ring with
                attempts := s.ring.attempts.del slot, queue := s.ring.queue.filter fun q => !q.isBindOf slot } }
            u.movesSent t (fun n => if n = slot then u.sentAtOnce slot else none)
              ∧ u.startsKept t (fun n => decide (n = slot) && u.commandsAtOnce slot)
              ∧ t.moves = { s.moves with nextTags := t.moves.nextTags, starts := t.moves.starts })
        ∧ { t.bar slot with
              state := (s.bar slot).state, move := (s.bar slot).move, position := (s.bar slot).position } = s.bar slot
        ∧ (∀ n, n ≠ slot → t.bar n = s.bar n)
        ∧ t.ring = { s.ring with queue := t.ring.queue, attempts := t.ring.attempts }
        ∧ t.ring.attempts.find slot = none
        ∧ (∀ n, n ≠ slot → t.ring.attempts.find n = s.ring.attempts.find n)
        ∧ (∀ q ∈ t.ring.queue, q.isBindOf slot = false)
        ∧ s.speedFollows t
        ∧ t = { s with
            bars := t.bars, ring := t.ring, moves := t.moves, alerts := t.alerts
            plan := { s.plan with p := t.plan.p }, speedLine := t.speedLine }))
    ∧ ∀ (s : State) (slot : Nat) (address code : Byte),
      s.bars.length = 64 → s.alerts.records.length = 16 → s.ring.state = .up → s.slotOfAddress address.toNat = some slot →
        ∃ t : State, exec (.fault (faultFrame address code)) s = .next t
          ∧ t.bars = s.bars.modify slot (fun b =>
              { b with driveFault := code.toNat, state := if b.state = .engaged then .faulted else b.state })
          ∧ s.alertRaised t 5 (some slot) (some s.shaft.c)
          ∧ s.speedFollows t
          ∧ t = { s with
              bars := t.bars, alerts := t.alerts, plan := { s.plan with p := t.plan.p }, speedLine := t.speedLine }

/-- For every state in TRAINING with one marker in transit (P being the permitted speed): where it comes home, intact and
within 1000 microseconds of its sending, and the run was not 3, the run rises by 1 and the next marker, with the next
sequence, is in transit; nothing else changes. Where the run was 3, the ring is UP with the run at 4, no losses, the
idle timer at 0 and nothing in transit; each bar in BINDING or REBINDING, in slot order, has handed its BIND, which
takes the place of a control frame queued for its address or joins the tail; every other frame stays in its place, none
other is queued, and nothing but the ring has changed (R153, R156), given that no two bound-side bars share an address.
A marker lost makes the run 0 and sends the next; one that comes home later changes nothing. MARKER_LOST acts on the
oldest entry (log 17); outside TRAINING or with nothing in transit it changes nothing (log 3). -/
def Obligations.MarkersTrainTheRing : Prop :=
  ∀ s : State,
    (∀ seq : Byte, ∀ sentAt : Nat, s.speedLaw → s.ring.state = .training →
        s.ring.transit = [markerInTransit seq sentAt] →
      (sentAt + 1000 < s.now → exec (.markerReturn (withCheck (markerBytes seq))) s = .next s)
      ∧ (s.now ≤ sentAt + 1000 → s.ring.markerRun ≠ 3 →
        exec (.markerReturn (withCheck (markerBytes seq))) s
          = .next { s with ring := { s.ring with
              markerRun := s.ring.markerRun + 1
              transit := [markerInTransit s.ring.nextSeq s.now]
              nextSeq := s.ring.nextSeq + 1
              out := withCheck (markerBytes s.ring.nextSeq) } })
      ∧ (s.now ≤ sentAt + 1000 → s.ring.markerRun = 3 → s.bars.length = 64 → s.addressLaw →
        ∃ t : State, exec (.markerReturn (withCheck (markerBytes seq))) s = .next t
          ∧ t.ring = { s.ring with
              state := .up, markerRun := 4, losses := 0, idle := 0, transit := [], queue := t.ring.queue }
          ∧ t.ring.queue = controlsPlaced (s.bindsOf fun slot => (s.bar slot).state.isBinding) s.ring.queue
          ∧ t = { s with ring := t.ring }))
    ∧ (∀ (x : Transit) (rest : List Transit), s.ring.state = .training → s.ring.transit = x :: rest →
        exec .markerLost s
          = .next { s with ring := { s.ring with
              markerRun := 0
              transit := rest ++ [markerInTransit s.ring.nextSeq s.now]
              nextSeq := s.ring.nextSeq + 1
              out := withCheck (markerBytes s.ring.nextSeq) } })
    ∧ (s.ring.state ≠ .training ∨ s.ring.transit = [] → exec .markerLost s = .next s)

/-- For every state in UP with P the permitted speed: bytes of a part frame that are those of a transit entry, with its
sequence and within 1000 microseconds of its sending, and of none before it, take that entry from the list and make the
consecutive losses 0, nothing else changing, under PART_FRAME_RETURN as under MARKER_RETURN (log 12).
FRAME_DECLARED_LOST takes the oldest entry (log 17) and, at the first loss, makes the consecutive losses 1 and changes
nothing else; outside UP or with nothing in transit it changes nothing (log 3). -/
def Obligations.FramesComeHomeOrAreLost : Prop :=
  ∀ s : State, s.speedLaw →
    (∀ (pre post : List Transit) (x : Transit) (bytes : List Byte), s.ring.state = .up →
        s.ring.transit = pre ++ x :: post → (∀ y ∈ pre, y.bytes ≠ bytes ∨ y.sentAt + 1000 < s.now) →
        x.bytes = bytes → bytes[2]? = some x.seq → s.now ≤ x.sentAt + 1000 →
        frameSound bytes = true → partFrameKind bytes = true →
      exec (.partFrameReturn bytes) s
          = .next { s with ring := { s.ring with transit := pre ++ post, losses := 0 } }
        ∧ exec (.markerReturn bytes) s
          = .next { s with ring := { s.ring with transit := pre ++ post, losses := 0 } })
    ∧ (∀ (x : Transit) (rest : List Transit), s.ring.state = .up → s.ring.transit = x :: rest → s.ring.losses = 0 →
        exec .frameDeclaredLost s = .next { s with ring := { s.ring with transit := rest, losses := 1 } })
    ∧ (s.ring.state ≠ .up ∨ s.ring.transit = [] → exec .frameDeclaredLost s = .next s)

/-- For every state with 64 bars and sixteen alert records: FRAME_DECLARED_LOST in UP with one loss standing, and RETRAIN in
UP with the frame written and the port idle, leave UP as State.leftUp says: TRAINING with its first marker sent, run and
losses 0, the UNBINDs alone queued, every retry timer stopped, every outstanding move discarded, IDLE bars BINDING and
ENGAGED and FAULTED ones REBINDING with fresh attempts, LINK_LOST raised with C and no slot, P and the speed line
following, nothing else changed. RETRAIN answers OK with TRAINING; in TRAINING it makes the run 0 and changes nothing
else. With the frame unwritten it is refused with NO_FRAME. -/
def Obligations.RingLeavesUp : Prop :=
  ∀ s : State, s.bars.length = 64 → s.alerts.records.length = 16 →
    (s.ring.state = .up → s.ring.transit ≠ [] → s.ring.losses = 1 →
      ∃ t : State, exec .frameDeclaredLost s = .next t ∧ s.leftUp t)
    ∧ (s.portIdle →
      (s.frame ≠ none → s.ring.state = .up →
        ∃ t : State, exec .retrain s = .next (t.answered 2 (okReply [1])) ∧ s.leftUp t)
      ∧ (s.frame ≠ none → s.ring.state = .training → s.speedLaw →
        exec .retrain s = .next (({ s with ring := { s.ring with markerRun := 0 } } : State).answered 2 (okReply [1])))
      ∧ (s.frame = none → exec .retrain s = .next (s.answered 2 (refusal .noFrame))))

/-- In UP with fewer than 16 frames in transit and a frame queued, FRAME_SEND answers the state in which the head has left
the queue and joined the transit list with the next sequence, its bytes and the time; the next sequence has risen by 1,
from 255 to 0; the idle timer is 0; the frame is on the ring output; a BIND has raised its attempt's count, held at 255,
and restarted its retry timer; nothing else has changed. Otherwise it changes nothing. The bytes before the check byte
are those of section 9.7, a BIND's read as it is sent. -/
def Obligations.FrameSendServesTheQueue : Prop :=
  ∀ s : State,
    (s.ring.state ≠ .up ∨ 16 ≤ s.ring.transit.length ∨ s.ring.queue = [] → exec .frameSend s = .next s)
    ∧ (∀ (q : QueuedFrame) (rest : List QueuedFrame), s.ring.state = .up → s.ring.transit.length < 16 →
        s.ring.queue = q :: rest →
        exec .frameSend s
          = .next { s with ring := { s.ring with
              queue := rest
              transit := s.ring.transit
                ++ [{ seq := s.ring.nextSeq, bytes := withCheck (s.queuedBytes q s.ring.nextSeq), sentAt := s.now }]
              nextSeq := s.ring.nextSeq + 1
              idle := 0
              attempts := match q with
                | .bind _ slot =>
                  s.ring.attempts.modify slot fun a => { a with count := min 255 (a.count + 1), timer := some 0 }
                | .marker => s.ring.attempts
                | .unbind _ => s.ring.attempts
                | .move _ _ _ _ => s.ring.attempts
              out := withCheck (s.queuedBytes q s.ring.nextSeq) } })
    ∧ (∀ (address slot tag budget : Nat) (counts : Int) (seq : Byte),
        s.queuedBytes .marker seq = [1, 127, seq]
          ∧ s.queuedBytes (.unbind address) seq = [3, BitVec.ofNat 8 address, seq]
          ∧ s.queuedBytes (.bind address slot) seq
            = [2, BitVec.ofNat 8 address, seq, BitVec.ofNat 8 slot]
              ++ bytes16 (BitVec.ofNat 16 (s.profile (s.bar slot).profile).tAcc)
              ++ bytes16 (BitVec.ofNat 16 (s.profile (s.bar slot).profile).tNs)
              ++ bytes16 (BitVec.ofNat 16 (s.profile (s.bar slot).profile).tSet)
              ++ bytes16 (BitVec.ofInt 16 (forwardCounts s.gauge 1))
          ∧ s.queuedBytes (.move address tag counts budget) seq
            = [4, BitVec.ofNat 8 address, seq, BitVec.ofNat 8 tag] ++ bytes32 (BitVec.ofInt 32 counts)
              ++ bytes32 (BitVec.ofNat 32 budget))

/-- IDLE_TIMER_EXPIRY in UP brings the idle timer to 10,000 and puts a MARKER at the tail of the send queue unless one is
queued; outside UP it changes nothing. RETRY_EXPIRY of a slot whose attempt's timer runs stops the timer and queues a
BIND of the slot, in the place of a control frame for its address or at the tail, every other frame staying in its
place; where the BIND count is 3 or more and silent raised is no, silent raised becomes yes and DRIVE_SILENT is raised
with the slot and C, otherwise no alert changes. Other attempts and all other blocks but P and the speed line stay.
Without an attempt or a running timer it changes nothing. The cases that change nothing are log 3, and the expiry
whatever the timer held is log 16: the model's choices. -/
def Obligations.IdleAndRetryTimers : Prop :=
  ∀ s : State,
    (s.ring.state ≠ .up → exec .idleTimerExpiry s = .next s)
    ∧ (s.ring.state = .up →
        exec .idleTimerExpiry s
          = .next { s with ring := { s.ring with
              idle := 10000
              queue := if QueuedFrame.marker ∈ s.ring.queue then s.ring.queue else s.ring.queue ++ [.marker] } })
    ∧ ∀ slot : Nat,
      (s.ring.attempts.find slot = none → exec (.retryExpiry slot) s = .next s)
      ∧ ∀ a : Attempt, s.ring.attempts.find slot = some a →
        (a.timer = none → exec (.retryExpiry slot) s = .next s)
        ∧ (a.timer ≠ none → s.alerts.records.length = 16 →
          ∃ t : State, exec (.retryExpiry slot) s = .next t ∧
            let silent := 3 ≤ a.count ∧ a.silentRaised = false
            t.ring.attempts.find slot
                = some { a with timer := none, silentRaised := a.silentRaised || decide (3 ≤ a.count) }
              ∧ (∀ n, n ≠ slot → t.ring.attempts.find n = s.ring.attempts.find n)
              ∧ t.ring.queue
                = controlsPlaced [((s.bar slot).address, .bind (s.bar slot).address slot)] s.ring.queue
              ∧ t.ring = { s.ring with queue := t.ring.queue, attempts := t.ring.attempts }
              ∧ (silent → s.alertRaised t 12 (some slot) (some s.shaft.c))
              ∧ (¬silent → t.alerts = s.alerts)
              ∧ s.speedFollows t
              ∧ t = { s with
                  ring := t.ring, alerts := t.alerts, plan := { s.plan with p := t.plan.p }, speedLine := t.speedLine })

/-- With the port idle, the frame written and P the permitted speed: BIND of a PARKED bar with an address no bound-side bar
holds answers OK with the bar BINDING, a fresh attempt and, in UP, its BIND queued; it is refused in the order of its
table, and with NO_FRAME before all while the frame is unwritten. PARK of an unfitted slot is refused with BAD_SLOT
whether the frame is written or not, and so PARK of any slot while it is unwritten (R179), every slot being unfitted
then. PARK of a PARKED bar changes nothing; a BINDING bar becomes PARKED, its attempt absent and, in UP, UNBIND queued,
in the place of a queued BIND or UNBIND for its address (log 34); an IDLE bar becomes PARKED with no outstanding move,
no MOVE queued for its address and UNBIND queued; a pinned one is refused with PINNED, an ENGAGED, FAULTED or REBINDING
one with BAD_STATE. Each frame queued takes the place of a control frame for its address or joins the tail, and every
other frame stays in its place (R153). All other fields of the bar, the other bars, attempts and blocks stay. -/
def Obligations.BindAndPark : Prop :=
  (∀ (s : State) (slot : Byte), s.portIdle → s.frame = none →
    exec (.bind slot) s = .next (s.answered 3 (refusal .noFrame))
      ∧ (s.bars.length = 64 → s.linkLaw → exec (.park slot) s = .next (s.answered 3 (refusal .badSlot))))
  ∧ (∀ (s : State) (slot : Byte), s.portIdle → (s.bar slot.toNat).state = .unfitted →
    exec (.park slot) s = .next (s.answered 3 (refusal .badSlot)))
  ∧ ∀ (s : State) (slot : Byte), s.bars.length = 64 → s.frame ≠ none → s.portIdle → s.speedLaw →
    let n := slot.toNat
    let b := s.bar n
    (b.state = .parked → b.address ≠ 0 → (∀ d ∈ s.bars, d.state.isBoundSide = true → d.address ≠ b.address) →
      ∃ t : State, exec (.bind slot) s = .next (t.answered 3 (okReply []))
        ∧ t = { s with bars := s.bars.set n { b with state := .binding }, ring := t.ring }
        ∧ t.ring = { s.ring with attempts := s.ring.attempts.put n freshAttempt, queue := t.ring.queue }
        ∧ (s.ring.state ≠ .up → t.ring.queue = s.ring.queue)
        ∧ (s.ring.state = .up → t.ring.queue = controlsPlaced [(b.address, .bind b.address n)] s.ring.queue))
    ∧ (b.state = .unfitted → exec (.bind slot) s = .next (s.answered 3 (refusal .badSlot)))
    ∧ (b.state ≠ .unfitted → b.state ≠ .parked ∨ b.address = 0 →
        exec (.bind slot) s = .next (s.answered 3 (refusal .badState)))
    ∧ (b.state = .parked → b.address ≠ 0 → (∃ d ∈ s.bars, d.state.isBoundSide = true ∧ d.address = b.address) →
        exec (.bind slot) s = .next (s.answered 3 (refusal .addressTaken)))
    ∧ (b.state = .parked → exec (.park slot) s = .next (s.answered 3 (okReply [])))
    ∧ (b.state = .binding → b.pinned = false →
      ∃ t : State, exec (.park slot) s = .next (t.answered 3 (okReply []))
        ∧ t = { s with bars := s.bars.set n { b with state := .parked }, ring := t.ring }
        ∧ t.ring = { s.ring with attempts := s.ring.attempts.del n, queue := t.ring.queue }
        ∧ (s.ring.state ≠ .up → t.ring.queue = s.ring.queue.filter fun q => !q.isBindOf n)
        ∧ (s.ring.state = .up →
            t.ring.queue
                = ((controlsPlaced [(b.address, .unbind b.address)] (withoutMoves b.address s.ring.queue)).filter
                    fun q => !q.isBindOf n)
            ∧ ∀ pre post : List QueuedFrame, s.ring.queue = pre ++ .bind b.address n :: post →
                (∀ q ∈ pre ++ post, q.isControlFor b.address = false ∧ q.isMoveFor b.address = false
                  ∧ q.isBindOf n = false) →
                t.ring.queue = pre ++ .unbind b.address :: post))
    ∧ (b.state = .idle → b.pinned = false →
      ∃ t : State, exec (.park slot) s = .next (t.answered 3 (okReply []))
        ∧ t = { s with bars := s.bars.set n { b with state := .parked, move := none }, ring := t.ring }
        ∧ t.ring = { s.ring with queue := t.ring.queue }
        ∧ t.ring.queue = controlsPlaced [(b.address, .unbind b.address)] (withoutMoves b.address s.ring.queue))
    ∧ (b.state = .binding ∨ b.state = .idle → b.pinned = true →
        exec (.park slot) s = .next (s.answered 3 (refusal .pinned)))
    ∧ (b.state = .engaged ∨ b.state = .faulted ∨ b.state = .rebinding →
        exec (.park slot) s = .next (s.answered 3 (refusal .badState)))

/-- With the port idle and P the permitted speed, for every slot and address: a PARKED bar takes an address of 0..126,
whatever the other records hold and whatever its pinned flag, and answers OK; no other field, bar or block changes and
nothing is sent or queued on the ring; address 0 is the unset address. A fitted bar is refused an address of 127 or more
with BAD_VALUE, and outside PARKED any other with BAD_STATE; an unfitted slot is refused with BAD_SLOT. A pinned bar is
never PARKED wherever the assignment law holds. -/
def Obligations.SetAddressOfAParkedBar : Prop :=
  (∀ (s : State) (slot address : Byte), s.bars.length = 64 → s.portIdle → s.speedLaw →
    let n := slot.toNat
    ((s.bar n).state = .parked → address.toNat ≤ 126 →
      exec (.setAddress slot address) s
        = .next (({ s with bars := s.bars.set n { s.bar n with address := address.toNat } } : State).answered 4 (okReply [])))
    ∧ ((s.bar n).state ≠ .unfitted → 127 ≤ address.toNat →
        exec (.setAddress slot address) s = .next (s.answered 4 (refusal .badValue)))
    ∧ ((s.bar n).state ≠ .unfitted → (s.bar n).state ≠ .parked → address.toNat ≤ 126 →
        exec (.setAddress slot address) s = .next (s.answered 4 (refusal .badState)))
    ∧ ((s.bar n).state = .unfitted → exec (.setAddress slot address) s = .next (s.answered 4 (refusal .badSlot))))
  ∧ ∀ s : State, s.assignmentLaw → ∀ slot ∈ slots, (s.bar slot).pinned = true → (s.bar slot).state ≠ .parked

/-- With the port idle and P the permitted speed, for a fitted bar: SET_TRIM stores the trim clamped to -2000..2000 in any
state, pinned or not, and answers it. SET_LIMITS with 0..511 and low at most high stores the limits of an unpinned
PARKED or IDLE bar, in its record and in the plan configuration. SET_BAR_PROFILE of the profile named already changes
nothing; another one replaces the profile of an unpinned PARKED bar, and an IDLE bar then also loses its outstanding
move and its queued MOVE and enters BINDING with a fresh attempt and, in UP, its BIND queued in the place of a control
frame for its address or at the tail, every other frame staying in its place. Each is refused in the order value, state,
pin. Each of an unfitted slot is refused with BAD_SLOT, whatever it carries (R17). Nothing else changes. -/
def Obligations.BarFieldsAreSet : Prop :=
  ∀ (s : State) (slot : Byte), s.bars.length = 64 → s.portIdle → s.speedLaw →
    let n := slot.toNat
    let b := s.bar n
    (b.state = .unfitted →
      (∀ trim : BitVec 16, exec (.setTrim slot trim) s = .next (s.answered 5 (refusal .badSlot)))
        ∧ (∀ low high : BitVec 16, exec (.setLimits slot low high) s = .next (s.answered 7 (refusal .badSlot)))
        ∧ ∀ profile : Byte, exec (.setBarProfile slot profile) s = .next (s.answered 4 (refusal .badSlot)))
    ∧ (b.state ≠ .unfitted →
      (∀ trim : BitVec 16,
        let v : Int := if trim.toInt < -2000 then -2000 else if 2000 < trim.toInt then 2000 else trim.toInt
        exec (.setTrim slot trim) s
          = .next (({ s with bars := s.bars.set n { b with trim := v } } : State).answered 5 (okReply (beSigned 2 v))))
      ∧ (∀ low high : BitVec 16,
          let ordered := high.toNat ≤ 511 ∧ low.toNat ≤ high.toNat
          (¬ordered → exec (.setLimits slot low high) s = .next (s.answered 7 (refusal .badValue)))
          ∧ (ordered → b.state ≠ .parked → b.state ≠ .idle →
              exec (.setLimits slot low high) s = .next (s.answered 7 (refusal .badState)))
          ∧ (ordered → b.state = .parked ∨ b.state = .idle → b.pinned = true →
              exec (.setLimits slot low high) s = .next (s.answered 7 (refusal .pinned)))
          ∧ (ordered → b.state = .parked ∨ b.state = .idle → b.pinned = false →
              exec (.setLimits slot low high) s
                = .next (({ s with
                    bars := s.bars.set n { b with low := low.toNat, high := high.toNat }
                    plan := { s.plan with layout := { s.plan.layout with
                      config := s.plan.layout.config.modify n fun c =>
                        { c with low := low.toNat, high := high.toNat } } } } : State).answered 7 (okReply []))))
      ∧ ∀ profile : Byte,
          (8 ≤ profile.toNat → exec (.setBarProfile slot profile) s = .next (s.answered 4 (refusal .badValue)))
          ∧ (profile.toNat ≤ 7 → b.state ≠ .parked → b.state ≠ .idle →
              exec (.setBarProfile slot profile) s = .next (s.answered 4 (refusal .badState)))
          ∧ (profile.toNat ≤ 7 → b.state = .parked ∨ b.state = .idle → b.pinned = true →
              exec (.setBarProfile slot profile) s = .next (s.answered 4 (refusal .pinned)))
          ∧ (profile.toNat ≤ 7 → b.state = .parked ∨ b.state = .idle → b.pinned = false →
            (b.profile = profile.toNat → exec (.setBarProfile slot profile) s = .next (s.answered 4 (okReply [])))
            ∧ (b.state = .parked →
                exec (.setBarProfile slot profile) s
                  = .next (({ s with
                      bars := s.bars.set n { b with profile := profile.toNat } } : State).answered 4 (okReply [])))
            ∧ (b.state = .idle → b.profile ≠ profile.toNat →
                ∃ t : State, exec (.setBarProfile slot profile) s = .next (t.answered 4 (okReply []))
                  ∧ t = { s with
                      bars := s.bars.set n { b with profile := profile.toNat, state := .binding, move := none }
                      ring := t.ring }
                  ∧ t.ring = { s.ring with attempts := s.ring.attempts.put n freshAttempt, queue := t.ring.queue }
                  ∧ (s.ring.state ≠ .up → t.ring.queue = withoutMoves b.address s.ring.queue)
                  ∧ (s.ring.state = .up →
                      t.ring.queue
                        = controlsPlaced [(b.address, .bind b.address n)] (withoutMoves b.address s.ring.queue)))))


/-- With the port idle: for a FAULTED bar, the shaft STOPPED, no held hold count and the tracker of its profile in PRE,
BETWEEN or POST, whose entry in the held record gives the side's position (clamped where the record is blocked): where
the bar stands there with no outstanding move it becomes ENGAGED, BAR_READY is raised with the slot and C, and the
answer is OK with the target and no tag. Otherwise a MOVE with budget 0 and the slot's next tag goes out, in the place
of a MOVE queued for the address or at the tail, every other frame staying in its place; the outstanding move is that
RECOVERY move with the counts of its target, the next tag rises modulo 16, and the answer carries the target and the
tag; the bar stays FAULTED. Nothing else changes but P and the speed line. The refusals come in the order of the table.
The tag's presence byte is that of log 7. -/
def Obligations.RecoverReturnsAFaultedBar : Prop :=
  ∀ (s : State) (slot : Byte), s.bars.length = 64 → s.alerts.records.length = 16 → s.portIdle →
    let n := slot.toNat
    let b := s.bar n
    let region := (s.tracker b.profile).region
    let atRest := s.shaft.state = .stopped ∧ s.moves.heldHold = 0
    let inWindow := region = .overlap ∨ region = .underlap
    (∀ (e : Entry) (side : Side) (x : Int), b.state = .faulted → atRest → region.side = some side →
        s.moves.held.entryOf n = some e → e.sidePosition side = some x →
      let start := (b.move.map (·.target)).getD b.position
      let target := if s.moves.held.cause = .none then x else clampTarget b (s.profile b.profile) start x
      let counts := targetCounts s.gauge b.trim target
      let tag := s.nextTag n
      (b.move = none → b.position = target →
        ∃ t : State, exec (.recover slot) s = .next (t.answered 3 (okReply (beSigned 2 target ++ [0])))
          ∧ t.bars = s.bars.set n { b with state := .engaged }
          ∧ s.alertRaised t 14 (some n) (some s.shaft.c)
          ∧ s.speedFollows t
          ∧ t = { s with
              bars := t.bars, alerts := t.alerts, plan := { s.plan with p := t.plan.p }, speedLine := t.speedLine })
      ∧ (b.move ≠ none ∨ b.position ≠ target → s.speedLaw →
        ∃ t : State, exec (.recover slot) s = .next (t.answered 3 (okReply (beSigned 2 target ++ [1, BitVec.ofNat 8 tag])))
          ∧ t = { s with
              bars := s.bars.set n { b with move := some { tag, target, counts, side, kind := .recovery } }
              moves := { s.moves with nextTags := s.moves.nextTags.set n ((tag + 1) % 16) }
              ring := { s.ring with queue := t.ring.queue } }
          ∧ t.ring.queue = movesPlaced [(b.address, .move b.address tag counts 0)] s.ring.queue))
    ∧ (b.state = .unfitted → exec (.recover slot) s = .next (s.answered 3 (refusal .badSlot)))
    ∧ (b.state ≠ .unfitted → b.state ≠ .faulted → exec (.recover slot) s = .next (s.answered 3 (refusal .badState)))
    ∧ (b.state = .faulted → ¬atRest → exec (.recover slot) s = .next (s.answered 3 (refusal .moving)))
    ∧ (b.state = .faulted → atRest → inWindow → exec (.recover slot) s = .next (s.answered 3 (refusal .window)))

/-- With the port idle: CREATE_PROGRAM of a free number 1..255 with a length 1..16,384 and pages enough takes the first
ceil(length / 256) free pages and creates the entry OPEN with nothing written. WRITE_STEPS of 1 to 32 well-formed steps
at the index where an OPEN program's writing stands, within its length, raises written by their number; each is then
read at its index, and every cell that is not one of theirs keeps its step. RETIRE_PROGRAM of an OPEN program or a
SEALED one without references removes the entry, frees its pages and leaves every cell; one with references is refused
with REFERENCED. The refusals, in their order: number 0 with BAD_VALUE; a number taken with EXISTS at a creation, a free
one with NOT_FOUND elsewhere; a length of 0 or above 16,384 with BAD_VALUE, too few pages with NO_SPACE; WRITE_STEPS of
a SEALED program with BAD_STATE, of no step or above 32 with BAD_VALUE, at another index with ORDER and written, past
the length with BAD_VALUE, and of a step that is ill formed (R45) with BAD_VALUE and the index of the first. A refusal
changes nothing but the port, and nothing outside the store and the port ever changes. -/
def Obligations.ProgramsAreCreatedWrittenAndRetired : Prop :=
  (∀ (s : State) (length start : BitVec 16) (bytes : List StepBytes) (count : Byte), s.portIdle →
    exec (.createProgram 0 length) s = .next (s.answered 5 (refusal .badValue))
      ∧ exec (.writeSteps 0 start bytes) s = .next (s.answered (5 + 5 * bytes.length) (refusal .badValue))
      ∧ exec (.sealProgram 0) s = .next (s.answered 3 (refusal .badValue))
      ∧ exec (.retireProgram 0) s = .next (s.answered 3 (refusal .badValue))
      ∧ exec (.queryProgram 0) s = .next (s.answered 3 (refusal .badValue))
      ∧ exec (.readSteps 0 start count) s = .next (s.answered 6 (refusal .badValue)))
  ∧ ∀ (s : State) (program : Byte), s.portIdle → s.storeLaw → program ≠ 0 →
    let n := program.toNat
    let illFormed (b : StepBytes) : Bool :=
      decide (b.kind = 1 ∧ (511 < b.x.toNat ∨ 511 < b.y.toNat) ∨ b.kind = 2 ∧ (b.x.toNat < 2 ∨ 4095 < b.x.toNat ∨ b.y ≠ 0)
        ∨ b.kind = 3 ∧ b.x ≠ 0 ∨ b.kind ≠ 1 ∧ b.kind ≠ 2 ∧ b.kind ≠ 3)
    (∀ (length start : BitVec 16) (bytes : List StepBytes) (count : Byte), s.store.programs.find n = none →
      exec (.writeSteps program start bytes) s = .next (s.answered (5 + 5 * bytes.length) (refusal .notFound))
        ∧ exec (.sealProgram program) s = .next (s.answered 3 (refusal .notFound))
        ∧ exec (.retireProgram program) s = .next (s.answered 3 (refusal .notFound))
        ∧ exec (.queryProgram program) s = .next (s.answered 3 (refusal .notFound))
        ∧ exec (.readSteps program start count) s = .next (s.answered 6 (refusal .notFound))
        ∧ (length.toNat = 0 ∨ 16384 < length.toNat →
            exec (.createProgram program length) s = .next (s.answered 5 (refusal .badValue)))
        ∧ (1 ≤ length.toNat → length.toNat ≤ 16384 → s.store.free.length < pagesFor length.toNat →
            exec (.createProgram program length) s = .next (s.answered 5 (refusal .noSpace))))
    ∧ (∀ (p : Program) (length start : BitVec 16) (bytes : List StepBytes), s.store.programs.find n = some p →
      let refused (r : Reply) : Prop :=
        exec (.writeSteps program start bytes) s = .next (s.answered (5 + 5 * bytes.length) r)
      exec (.createProgram program length) s = .next (s.answered 5 (refusal .exists_))
        ∧ (p.sealInfo ≠ none → refused (refusal .badState))
        ∧ (p.sealInfo = none → bytes = [] ∨ 32 < bytes.length → refused (refusal .badValue))
        ∧ (p.sealInfo = none → bytes ≠ [] → bytes.length ≤ 32 →
            (start.toNat ≠ p.written → refused { status := .order, body := beBytes 2 p.written })
            ∧ (start.toNat = p.written → p.length < p.written + bytes.length → refused (refusal .badValue))
            ∧ (start.toNat = p.written → p.written + bytes.length ≤ p.length →
                ∀ (pre post : List StepBytes) (b : StepBytes), bytes = pre ++ b :: post →
                  (∀ a ∈ pre, illFormed a = false) → illFormed b = true →
                  refused { status := .badValue, body := beBytes 2 (p.written + pre.length) })))
    ∧ (∀ length : BitVec 16, s.store.programs.find n = none → 1 ≤ length.toNat → length.toNat ≤ 16384 →
        pagesFor length.toNat ≤ s.store.free.length →
      let k := pagesFor length.toNat
      ∃ t : State, exec (.createProgram program length) s
          = .next (t.answered 5 (okReply (BitVec.ofNat 8 k :: bytes16 (BitVec.ofNat 16 (s.store.free.length - k)))))
        ∧ t = { s with store := t.store }
        ∧ t.store.free = s.store.free.drop k
        ∧ t.store.programs.find n
            = some { length := length.toNat, pages := s.store.free.take k, written := 0, sealInfo := none }
        ∧ (∀ m, m ≠ n → t.store.programs.find m = s.store.programs.find m)
        ∧ ∀ a, a / 256 ∉ s.store.free.take k → t.store.memory.find a = s.store.memory.find a)
    ∧ (∀ (p : Program) (start : BitVec 16) (bytes : List StepBytes) (steps : List Step),
        s.store.programs.find n = some p → p.sealInfo = none → p.pages.length = pagesFor p.length →
        start.toNat = p.written → bytes.length ≤ 32 → bytes ≠ [] → p.written + bytes.length ≤ p.length →
        bytes.map readStep = steps.map some →
      ∃ t : State, exec (.writeSteps program start bytes) s
          = .next (t.answered (5 + 5 * bytes.length) (okReply (beBytes 2 (p.written + bytes.length))))
        ∧ t = { s with store := t.store }
        ∧ t.store.free = s.store.free
        ∧ t.store.programs.find n = some { p with written := p.written + bytes.length }
        ∧ (∀ m, m ≠ n → t.store.programs.find m = s.store.programs.find m)
        ∧ (∀ i, i < steps.length → t.store.readStep p (p.written + i) = steps[i]?)
        ∧ ∀ a, (∀ i, i < steps.length → p.address (p.written + i) ≠ some a) →
            t.store.memory.find a = s.store.memory.find a)
    ∧ ∀ p : Program, s.store.programs.find n = some p →
        ((∀ info, p.sealInfo = some info → info.refs = 0) →
          ∃ t : State, exec (.retireProgram program) s
              = .next (t.answered 3 (okReply (beBytes 2 (s.store.free.length + p.pages.length))))
            ∧ t = { s with store := t.store }
            ∧ t.store.free.Perm (s.store.free ++ p.pages)
            ∧ t.store.programs = s.store.programs.del n
            ∧ t.store.memory = s.store.memory)
        ∧ (∀ info, p.sealInfo = some info → 0 < info.refs →
            exec (.retireProgram program) s = .next (s.answered 3 (refusal .referenced)))

/-- With the port idle, SEAL_PROGRAM of an OPEN program fully written is taken: the port is PERFORMING that seal and nothing
else changes; one not fully written is refused with INCOMPLETE, a SEALED one with BAD_STATE. SEAL_END of a seal in
flight: a failed structure scan answers STRUCTURE with its cause and index, an unfolding too long TOO_LONG, and nothing
else changes; a success answers OK with course length and depth, the entry is SEALED with them and a reference count of
0, its steps are those of the seal, and every other entry and every cell of no step of it stays, given the laws of the
store. SEAL_END without a seal in flight changes nothing (log 3). That the whole seal is performed at SEAL_END is the
model's choice (log 29). -/
def Obligations.SealRunsToItsEnd : Prop :=
  ∀ s : State,
    (∀ (program : Byte) (p : Program), s.portIdle → program ≠ 0 → s.store.programs.find program.toNat = some p →
      (p.sealInfo = none → p.written = p.length →
        exec (.sealProgram program) s
          = .next { s with port := { s.port with
              inFlight := some (.sealing program.toNat), held := none, dataOut := [0, 0, 0] } })
      ∧ (p.sealInfo = none → p.written ≠ p.length →
        exec (.sealProgram program) s = .next (s.answered 3 (refusal .incomplete)))
      ∧ (p.sealInfo ≠ none → exec (.sealProgram program) s = .next (s.answered 3 (refusal .badState))))
    ∧ (∀ (n : Nat) (p : Program), s.port.inFlight = some (.sealing n) → s.store.programs.find n = some p →
      let ended (r : Reply) : Port := { s.port with inFlight := none, held := some { reply := r, wasRead := false } }
      (∀ cause i, sealSteps (s.store.stepsOf p) = .structureFault cause i →
        exec .sealEnd s = .next { s with port := ended { status := .structure_, body := cause.place :: beBytes 2 i } })
      ∧ (sealSteps (s.store.stepsOf p) = .tooLong → exec .sealEnd s = .next { s with port := ended (refusal .tooLong) })
      ∧ ∀ steps courseLength depth, sealSteps (s.store.stepsOf p) = .success steps courseLength depth →
          s.storeLaw → s.programsLaw →
        ∃ t : State, exec .sealEnd s = .next t
          ∧ t = { s with
              store := t.store, port := ended (okReply (beBytes 4 courseLength ++ [BitVec.ofNat 8 depth])) }
          ∧ t.store.free = s.store.free
          ∧ t.store.programs.find n = some { p with sealInfo := some { courseLength, depth, refs := 0 } }
          ∧ (∀ m, m ≠ n → t.store.programs.find m = s.store.programs.find m)
          ∧ t.store.stepsOf p = steps
          ∧ ∀ a, (∀ i, i < p.written → p.address i ≠ some a) → t.store.memory.find a = s.store.memory.find a)
    ∧ ((∀ n, s.port.inFlight ≠ some (.sealing n)) → exec .sealEnd s = .next s)

/-- Where the seal of steps with 2 to 4095 passes a loop succeeds: the COURSE steps stand as they were; each OPEN keeps its
count and names a later CLOSE that names it, and each CLOSE an earlier OPEN that names it; loops nest; each holds a
COURSE; the depth is at most 4 and the greatest number of loops around one index; the course length lies in
1..2,147,483,647 and counts 1 for each COURSE and count times body for each loop; and the sealed steps seal to
themselves. Which programs fail (R47): the first step that fails ends the scan with its cause and index: an OPEN where 4
loops are open (TOO_DEEP), a CLOSE where none is (UNMATCHED_CLOSE) or where no COURSE has been read since the innermost
open loop was opened (EMPTY_LOOP). Where no step fails: with loops open at the end, UNCLOSED_OPEN at the lowest-indexed
OPEN still open; else without a COURSE, NO_COURSE at 0, which no program with steps comes to; else TOO_LONG exactly
where the courses of the whole exceed 2,147,483,647, and success otherwise. The courses of a run whose loops are all
closed are 0 for none, 1 more for a COURSE in front, and count times body more for a loop in front; those of every loop
and body are at most those of the whole, so that comparing the whole alone is R49's comparison of each. -/
def Obligations.SealPairsEveryLoop : Prop :=
  (∀ (steps sealed : List Step) (len depth : Nat), (∀ v ∈ steps, v.passesInRange = true) →
      sealSteps steps = .success sealed len depth →
    let around (k i : Nat) : Bool :=
      match sealed[i]? with
      | some (.loopOpen _ p) => decide (i < k) && decide (k < p)
      | some (.course _ _) => false
      | some (.loopClose _) => false
      | none => false
    sealed.length = steps.length
      ∧ (∀ i a b : Nat, steps[i]? = some (Step.course a b) ↔ sealed[i]? = some (Step.course a b))
      ∧ (∀ i n p : Nat, sealed[i]? = some (Step.loopOpen n p) →
          (∃ q : Nat, steps[i]? = some (Step.loopOpen n q)) ∧ i < p ∧ sealed[p]? = some (Step.loopClose i)
            ∧ ∃ k a b : Nat, i < k ∧ k < p ∧ sealed[k]? = some (Step.course a b))
      ∧ (∀ i p : Nat, sealed[i]? = some (Step.loopClose p) → p < i ∧ ∃ n : Nat, sealed[p]? = some (Step.loopOpen n i))
      ∧ (∀ i n p j m q : Nat, sealed[i]? = some (Step.loopOpen n p) → sealed[j]? = some (Step.loopOpen m q) → i < j → j < p → q < p)
      ∧ depth ≤ 4 ∧ (∀ k : Nat, (List.range sealed.length).countP (around k) ≤ depth)
      ∧ (∃ k : Nat, (List.range sealed.length).countP (around k) = depth)
      ∧ 1 ≤ len ∧ len ≤ 2147483647 ∧ len = coursesOf sealed
      ∧ (∀ i a b : Nat, sealed[i]? = some (Step.course a b) → coursesOf (sealed.drop i) = 1 + coursesOf (sealed.drop (i + 1)))
      ∧ (∀ i n p : Nat, sealed[i]? = some (Step.loopOpen n p) →
          coursesOf (sealed.drop i) = n * coursesOf (bodyOf sealed i p) + coursesOf (sealed.drop (p + 1)))
      ∧ sealSteps sealed = .success sealed len depth)
    ∧ (∀ (steps : List Step) (i : Nat), steps ≠ [] → sealSteps steps ≠ .structureFault .noCourse i)
    ∧ (∀ (steps : List Step) (i : Nat) (cause : ScanFault), faultAt steps i = some cause →
        (∀ j, j < i → faultAt steps j = none) → sealSteps steps = .structureFault cause i)
    ∧ (∀ steps : List Step, (∀ j, j < steps.length → faultAt steps j = none) →
        (nestBefore steps steps.length ≠ 0 →
          ∃ o : Nat, o < steps.length ∧ nestBefore steps o = 0
            ∧ (∀ k, o < k → k ≤ steps.length → 0 < nestBefore steps k)
            ∧ sealSteps steps = .structureFault .unclosedOpen o)
        ∧ (nestBefore steps steps.length = 0 →
          (steps.any Step.isCourse = false → sealSteps steps = .structureFault .noCourse 0)
          ∧ (steps.any Step.isCourse = true → 2147483647 < coursesOf steps → sealSteps steps = .tooLong)
          ∧ (steps.any Step.isCourse = true → coursesOf steps ≤ 2147483647 →
              ∃ (sealed : List Step) (depth : Nat), sealSteps steps = .success sealed (coursesOf steps) depth)
          ∧ ∀ (pre body post : List Step) (n p q : Nat), (∀ v ∈ steps, v.passesInRange = true) →
              steps = pre ++ .loopOpen n p :: body ++ .loopClose q :: post →
              closedRun body → coursesOf body ≤ n * coursesOf body ∧ n * coursesOf body ≤ coursesOf steps))
    ∧ coursesOf [] = 0
    ∧ (∀ (a b : Nat) (rest : List Step), closedRun rest → coursesOf (.course a b :: rest) = 1 + coursesOf rest)
    ∧ ∀ (body rest : List Step) (n p q : Nat), closedRun body → closedRun rest →
        coursesOf (.loopOpen n p :: body ++ .loopClose q :: rest) = n * coursesOf body + coursesOf rest

/-- For every program whose seal succeeds, there is a start position with program course 0 such that, for each k below the
course length, placement at k is the cursor that k forward steps from the start give; it has program course k, stands at
a COURSE step, and its stack has at most 4 frames, each iteration in 1..count. As many forward steps as the course
length return to the start. A reverse step of the cursor of k + 1 gives the cursor of k, and of the start the cursor of
course length - 1; so a forward and a reverse step, in either order, give back the cursor they began with, stack
included. -/
def Obligations.CursorsWalkTheProgram : Prop :=
  ∀ (written steps : List Step) (len depth program : Nat), (∀ v ∈ written, v.passesInRange = true) →
      sealSteps written = .success steps len depth →
    ∃ start : Cursor, start.program = program ∧ start.course = 0
      ∧ startPosition steps = some (start.index, start.stack)
      ∧ let walk (k : Nat) : Cursor := (fun c : Cursor => c.forward steps len)^[k] start
        (∀ k, k < len →
          placeCursor steps program k = some (walk k) ∧ (walk k).program = program ∧ (walk k).course = k
            ∧ (∃ a b, (walk k).pair steps = some (a, b))
            ∧ (walk k).stack.length ≤ 4
            ∧ (∀ f ∈ (walk k).stack, 1 ≤ f.iteration ∧ f.iteration ≤ f.count)
            ∧ (walk (k + 1)).reverse steps len = walk k
            ∧ ((walk k).forward steps len).reverse steps len = walk k
            ∧ ((walk k).reverse steps len).forward steps len = walk k)
          ∧ walk len = start
          ∧ start.reverse steps len = walk (len - 1)

/-- With the port idle, each query and READ_STEPS that names something there is answered OK with its body, and nothing but
the port's response and output changes: QUERY_BAR of a fitted slot, QUERY_PROGRAM and READ_STEPS of a program (1 to 32
steps, all written), QUERY_STORE, QUERY_SET of a set 0..3, QUERY_PROFILE of a profile 0..7, QUERY_MOTION, QUERY_COURSE
of a course C..H from a first slot 0..63, QUERY_RING, QUERY_ALERTS, QUERY_FRAME, QUERY_PIECES and QUERY_STATUS. An
unfitted slot is refused with BAD_SLOT; READ_STEPS of no step, of above 32 or beyond written with BAD_VALUE; a set above
3, a profile above 7 and a first slot above 63 with BAD_VALUE; a course outside C..H with NOT_FOUND; a program number 0
or free as the statement of the program requests says. QUERY_ALERTS carries all sixteen kinds once, the pending ones
first by level and kind number, then the others by kind number (R174). QUERY_COURSE carries up to sixteen entries from
the first slot on, in the record's order, and where more lie beyond, the slot of the next (R130); every course of C..H
has a record in a state that keeps the plan law. QUERY_PROFILE says whether the profile is in use and, where it is, the
lowest fitted slot engaged or pinned that names it (R100, R103). QUERY_RING gives of each attempt the slot, the BIND
count, timer running where the retry timer runs and waiting for the ring where it is stopped, and silent raised (R163);
that an attempt whose ring is UP and whose BIND is still queued is among the waiting is the model's choice (log 20). The
presence bytes of conditional items are those of log 7, and an edit in QUERY_SET is one of three alternatives (log 36).
-/
def Obligations.QueriesAnswerAndChangeNothing : Prop :=
  ∀ s : State, s.portIdle →
    (∀ slot : Byte, s.fittedSlot slot.toNat = false → exec (.queryBar slot) s = .next (s.answered 3 (refusal .badSlot)))
    ∧ (∀ set : Byte, 4 ≤ set.toNat → exec (.querySet set) s = .next (s.answered 3 (refusal .badValue)))
    ∧ (∀ profile : Byte, 8 ≤ profile.toNat → exec (.queryProfile profile) s = .next (s.answered 3 (refusal .badValue)))
    ∧ (∀ (course : BitVec 32) (first : Byte),
        (64 ≤ first.toNat → exec (.queryCourse course first) s = .next (s.answered 7 (refusal .badValue)))
          ∧ (first.toNat ≤ 63 → course.toNat < s.shaft.c ∨ s.plan.horizon < course.toNat →
              exec (.queryCourse course first) s = .next (s.answered 7 (refusal .notFound))))
    ∧ (∀ (program : Byte) (p : Program) (start : BitVec 16) (count : Byte), program ≠ 0 →
        s.store.programs.find program.toNat = some p →
        count.toNat = 0 ∨ 32 < count.toNat ∨ p.written < start.toNat + count.toNat →
        exec (.readSteps program start count) s = .next (s.answered 6 (refusal .badValue)))
    ∧ (∀ slot : Byte, s.fittedSlot slot.toNat = true →
      exec (.queryBar slot) s = .next (s.answered 3 (okReply (barBody (s.bar slot.toNat)))))
    ∧ (∀ (program : Byte) (p : Program), program ≠ 0 → s.store.programs.find program.toNat = some p →
      exec (.queryProgram program) s = .next (s.answered 3 (okReply (programBody p)))
        ∧ ∀ (start : BitVec 16) (count : Byte), 1 ≤ count.toNat → count.toNat ≤ 32 →
            start.toNat + count.toNat ≤ p.written →
          exec (.readSteps program start count) s
            = .next (s.answered 6 (okReply (listed stepItem
                ((List.range' start.toNat count.toNat).filterMap (s.store.readStep p))))))
    ∧ exec .queryStore s = .next (s.answered 2 (okReply (storeBody s.store)))
    ∧ (∀ set : Byte, set.toNat ≤ 3 →
      exec (.querySet set) s = .next (s.answered 3 (okReply (setBody s.changes set.toNat (s.changeSet set.toNat)))))
    ∧ (∀ profile : Byte, profile.toNat ≤ 7 →
      let n := profile.toNat
      let uses (slot : Nat) : Prop :=
        (s.bar slot).state ≠ .unfitted ∧ (s.bar slot).profile = n
          ∧ ((s.bar slot).state.isEngaged = true ∨ (s.bar slot).pinned = true)
      (∀ slot, uses slot → (∀ k, k < slot → ¬uses k) →
        exec (.queryProfile profile) s
          = .next (s.answered 3 (okReply (profileItem (s.profile n) ++ [1, 1, BitVec.ofNat 8 slot]))))
      ∧ ((∀ slot, ¬uses slot) →
        exec (.queryProfile profile) s = .next (s.answered 3 (okReply (profileItem (s.profile n) ++ [0, 0])))))
    ∧ exec .queryMotion s = .next (s.answered 2 (okReply s.motionBody))
    ∧ (∀ (course : BitVec 32) (first : Byte) (r : CourseRecord), first.toNat ≤ 63 → s.recordOf course.toNat = some r →
      ∀ (page beyond : List Entry), (r.entries.filter fun e => decide (first.toNat ≤ e.slot)) = page ++ beyond →
        page.length ≤ 16 → (beyond ≠ [] → page.length = 16) →
      exec (.queryCourse course first) s
        = .next (s.answered 7 (okReply
            (beBytes 4 r.course ++ beBytes 2 r.ceiling ++ [r.cause.place] ++ optional (beBytes 1) r.offending
              ++ beBytes 1 r.entries.length ++ listed entryItem page
              ++ (match beyond with
                | [] => [0]
                | e :: _ => [1, BitVec.ofNat 8 e.slot])))))
    ∧ (∀ course : Nat, s.planLaw → s.shaft.c ≤ course → course ≤ s.plan.horizon → (s.recordOf course).isSome = true)
    ∧ exec .queryRing s = .next (s.answered 2 (okReply (ringBody s.ring)))
    ∧ (∀ (slot : Nat) (a : Attempt), attemptItem (slot, a)
        = beBytes 1 slot ++ beBytes 1 a.count ++ [if a.timer = none then 0 else 1] ++ [if a.silentRaised then 1 else 0])
    ∧ (let order := s.alerts.urgencyOrder
       let pending (k : Nat) : Bool := (s.alerts.record k).pending
       exec .queryAlerts s
          = .next (s.answered 2 (okReply
              (lineByte s.alerts.stop ++ lineByte s.alerts.attention ++ lineByte s.alerts.haltLatch
                ++ lineByte s.alerts.emergencyActive ++ beBytes 1 s.alerts.threshold
                ++ listed (fun k => beBytes 1 k ++ beBytes 1 (s.alerts.level k) ++ alertItem (s.alerts.record k)) order)))
        ∧ ((∀ level ∈ s.alerts.levels, level ≤ 15) →
            order.Perm (List.range 16)
              ∧ order.Pairwise fun j k =>
                if pending j = pending k then
                  if pending j = true ∧ s.alerts.level j ≠ s.alerts.level k then s.alerts.level j < s.alerts.level k
                  else j < k
                else pending j = true))
    ∧ exec .queryFrame s = .next (s.answered 2 (okReply (frameBody s.frame)))
    ∧ exec .queryPieces s = .next (s.answered 2 (okReply (piecesBody s.pieces)))
    ∧ exec .queryStatus s = .next (s.answered 2 (okReply s.statusBody))

/-- With the port idle and four sets, for a set 0..3: OPEN_SET of a FREE set makes it OPEN with no edits and answers its
number; of an OPEN or COMMITTED one it is refused with BAD_STATE. DROP_EDIT of an OPEN set removes the edit of the slot
and answers how many are left; a slot above 63 is refused with BAD_VALUE, one without an edit with NOT_FOUND, a set not
OPEN with BAD_STATE. DISCARD_SET of an OPEN set makes it FREE; of a FREE or COMMITTED one it is refused with BAD_STATE.
A number above 3 is refused with BAD_VALUE. Nothing but the set and the port changes. -/
def Obligations.SetsOpenDropAndDiscard : Prop :=
  ∀ (s : State) (set : Byte), s.portIdle → s.changes.sets.length = 4 →
    let n := set.toNat
    let withSet (v : ChangeSet) : State := { s with changes := { s.changes with sets := s.changes.sets.set n v } }
    (s.changeSet n = .free → n ≤ 3 →
      exec (.openSet set) s = .next ((withSet (.opened ⟨[]⟩)).answered 3 (okReply [set]))
        ∧ exec (.discardSet set) s = .next (s.answered 3 (refusal .badState))
        ∧ ∀ slot : Byte, exec (.dropEdit set slot) s = .next (s.answered 4 (refusal .badState)))
    ∧ (∀ edits : KMap Edit, s.changeSet n = .opened edits →
      exec (.openSet set) s = .next (s.answered 3 (refusal .badState))
        ∧ exec (.discardSet set) s = .next ((withSet .free).answered 3 (okReply []))
        ∧ ∀ slot : Byte,
          (64 ≤ slot.toNat → exec (.dropEdit set slot) s = .next (s.answered 4 (refusal .badValue)))
          ∧ (slot.toNat ≤ 63 → edits.find slot.toNat = none →
              exec (.dropEdit set slot) s = .next (s.answered 4 (refusal .notFound)))
          ∧ (slot.toNat ≤ 63 → edits.find slot.toNat ≠ none →
              ∃ left : KMap Edit,
                exec (.dropEdit set slot) s
                    = .next ((withSet (.opened left)).answered 4 (okReply [BitVec.ofNat 8 left.cells.length]))
                  ∧ left.find slot.toNat = none ∧ ∀ m, m ≠ slot.toNat → left.find m = edits.find m))
    ∧ (∀ (edits : KMap Edit) (e : Nat), s.changeSet n = .committed edits e →
      exec (.openSet set) s = .next (s.answered 3 (refusal .badState))
        ∧ exec (.discardSet set) s = .next (s.answered 3 (refusal .badState))
        ∧ ∀ slot : Byte, exec (.dropEdit set slot) s = .next (s.answered 4 (refusal .badState)))
    ∧ (4 ≤ n →
      exec (.openSet set) s = .next (s.answered 3 (refusal .badValue))
        ∧ exec (.discardSet set) s = .next (s.answered 3 (refusal .badValue))
        ∧ ∀ slot : Byte, exec (.dropEdit set slot) s = .next (s.answered 4 (refusal .badValue)))

/-- With the port idle and four sets, for an OPEN set and a fitted slot: an edit of kind LEAD with a program 1..255 and an
entry course at most 2,147,483,646, of kind FOLLOW with a lead 0..63, an offset -511..511 and a mirror 0 or 1, or of
kind WITHDRAWN, with no limits or with two in 0..511, stands under its slot in place of any there; every other edit
stays, and the answer carries the number of edits. Any other kind, a limits flag above 1, and any field of its kind
outside those ranges (program 0, entry course above 2,147,483,646, lead above 63, offset outside -511..511, mirror above
1, a limit above 511 where limits are carried) is refused with BAD_VALUE; an unfitted slot with BAD_SLOT; a set not OPEN
with BAD_STATE, one above 3 with BAD_VALUE. Nothing but the set and the port changes. -/
def Obligations.AddEditStoresOneEditASlot : Prop :=
  ∀ (s : State) (set slot : Byte) (b : EditBytes), s.portIdle → s.changes.sets.length = 4 →
    (∀ edits : KMap Edit, s.changeSet set.toNat = .opened edits →
      (s.fittedSlot slot.toNat = true →
        (∀ (a : EditAssignment) (l : Option (Int × Int)),
          (b.kind = 1 ∧ b.program ≠ 0 ∧ b.entryCourse.toNat ≤ 2147483646
              ∧ a = .lead b.program.toNat b.entryCourse.toNat
            ∨ b.kind = 2 ∧ b.leadSlot.toNat ≤ 63 ∧ -511 ≤ b.offset.toInt ∧ b.offset.toInt ≤ 511
              ∧ (b.mirror = 0 ∧ a = .follow b.leadSlot.toNat b.offset.toInt false
                ∨ b.mirror = 1 ∧ a = .follow b.leadSlot.toNat b.offset.toInt true)
            ∨ b.kind = 3 ∧ a = .withdrawn) →
          (b.limitsPresent = 0 ∧ l = none
            ∨ b.limitsPresent = 1 ∧ b.low.toNat ≤ 511 ∧ b.high.toNat ≤ 511
              ∧ l = some ((b.low.toNat : Int), (b.high.toNat : Int))) →
          ∃ after : KMap Edit,
            exec (.addEdit set slot b) s
                = .next (({ s with changes := { s.changes with
                    sets := s.changes.sets.set set.toNat (.opened after) } } : State).answered 19
                    (okReply [BitVec.ofNat 8 after.cells.length]))
              ∧ after.find slot.toNat = some { assignment := a, limits := l }
              ∧ (∀ m, m ≠ slot.toNat → after.find m = edits.find m)
              ∧ (edits.wf = true → after.wf = true))
        ∧ (b.kind ≠ 1 → b.kind ≠ 2 → b.kind ≠ 3 →
            exec (.addEdit set slot b) s = .next (s.answered 19 (refusal .badValue)))
        ∧ (2 ≤ b.limitsPresent.toNat ∨ b.limitsPresent = 1 ∧ (511 < b.low.toNat ∨ 511 < b.high.toNat)
              ∨ b.kind = 1 ∧ (b.program = 0 ∨ 2147483646 < b.entryCourse.toNat)
              ∨ b.kind = 2 ∧ (63 < b.leadSlot.toNat ∨ b.offset.toInt < -511 ∨ 511 < b.offset.toInt ∨ 1 < b.mirror.toNat) →
            exec (.addEdit set slot b) s = .next (s.answered 19 (refusal .badValue))))
      ∧ (s.fittedSlot slot.toNat = false → exec (.addEdit set slot b) s = .next (s.answered 19 (refusal .badSlot))))
    ∧ (4 ≤ set.toNat → exec (.addEdit set slot b) s = .next (s.answered 19 (refusal .badValue)))
    ∧ (s.changeSet set.toNat = .free → set.toNat ≤ 3 →
        exec (.addEdit set slot b) s = .next (s.answered 19 (refusal .badState)))
    ∧ ∀ (edits : KMap Edit) (e : Nat), s.changeSet set.toNat = .committed edits e →
        exec (.addEdit set slot b) s = .next (s.answered 19 (refusal .badState))

/-- With the port idle: a set number above 3 is refused with BAD_VALUE, a set not OPEN with BAD_STATE (R78). For an OPEN set
whose edits stand in order: an E above 2,147,483,647 is refused with BAD_VALUE; the resulting configuration gives a slot
the last edit that names it, the set's own after those of the commit list, over its record; the first check of R85 that
fails refuses with its lowest slot: a named bar PARKED (BAD_STATE), a LEAD program missing or not SEALED (NOT_FOUND), an
entry course at or above its course length (BAD_VALUE), a bar of the resulting configuration that follows itself or no
LEAD (LEAD_INVALID), limits with low above high (BAD_VALUE), the two program checks one after the other (log 33); an E
below the greatest on the commit list is refused with ORDER and one below the timing minimum (F + 1 moving; stopped C +
1 where the angle is below us of the profile of every slot that the edits name or that in the resulting configuration
follows one they name, and C + 2 otherwise: R88) with TOO_LATE, each with the earliest E in four bytes (log 21).
Otherwise E, or for 0 the earliest, is taken: the set is COMMITTED at the tail of the list, its slots are pinned, each
program gains a reference for each LEAD edit; a stopped commit at or below F replans: in a lawful state (sizes,
addresses, plan, held) the current record is the one built, the queue is empty, H is C, the plan state is the copy for C
+ 1, a blocked record raises its alerts, the Move Unit holds the record and each bar whose target it changes is
commanded at once (R125, R136, R141); any other commit leaves plan, ring, alerts, moves and the bars' other fields. All
else stays, P and the speed line following. -/
def Obligations.CommitJudgesAndTakesASet : Prop :=
  ∀ (s : State) (set : Byte) (e : BitVec 32), s.portIdle → s.changes.sets.length = 4 →
    let n := set.toNat
    (4 ≤ n → exec (.commitSet set e) s = .next (s.answered 7 (refusal .badValue)))
    ∧ (n ≤ 3 → (∀ edits, s.changeSet n ≠ .opened edits) →
        exec (.commitSet set e) s = .next (s.answered 7 (refusal .badState)))
    ∧ ∀ edits : KMap Edit, s.bars.length = 64 → s.changeSet n = .opened edits → edits.wf = true →
      (∀ k ∈ edits.keys, k < 64) →
    let place := s.changes.commitList.length + 1
    let config := layConfig s.listedConfig edits
    let follows (slot : Nat) : Bool :=
        match (config.getD slot coldConfig).assignment with
        | .follow leader _ _ => edits.has leader
        | .lead _ => false
        | .none => false
    let minimum :=
      if s.shaft.state = .stopped then
        (if ∀ slot ∈ slots, edits.has slot = true ∨ follows slot = true →
            s.shaft.angle < (s.profile (s.bar slot).profile).us then s.shaft.c + 1
          else s.shaft.c + 2)
      else s.plan.f + 1
    let refused (status : Status) : Prop :=
      exec (.commitSet set e) s = .next (s.answered 7 { status, body := beBytes 4 (max s.greatestE minimum) })
    let taken (at_ : Nat) : Prop :=
      ∃ t : State, exec (.commitSet set e) s
          = .next (t.answered 7 (okReply (beBytes 4 at_ ++ [BitVec.ofNat 8 place])))
        ∧ t.changes = { sets := s.changes.sets.set n (.committed edits at_), commitList := s.changes.commitList ++ [n] }
        ∧ (∀ slot ∈ slots, { t.bar slot with move := (s.bar slot).move }
            = { s.bar slot with pinned := (s.bar slot).pinned || edits.has slot })
        ∧ t.store.free = s.store.free ∧ t.store.memory = s.store.memory
        ∧ (∀ m, (t.sealOf m).map (fun i => (i.courseLength, i.depth, i.refs))
            = (s.sealOf m).map fun i =>
                (i.courseLength, i.depth, i.refs + edits.cells.countP fun ke => ke.2.program == some m))
        ∧ (s.shaft.state = .stopped ∧ at_ ≤ s.plan.f →
            (s.sizesLaw → s.addressLaw → s.planLaw → s.heldLaw → s.replanned t)
              ∧ t.plan.queue = [] ∧ t.plan.horizon = s.shaft.c ∧ t.plan.planning = false
              ∧ t.plan.current.course = s.shaft.c ∧ t.plan.planPosition = s.shaft.c + 1)
        ∧ (s.shaft.state ≠ .stopped ∨ s.plan.f < at_ →
            t.plan = { s.plan with p := t.plan.p } ∧ t.ring = s.ring ∧ t.alerts = s.alerts ∧ t.moves = s.moves
              ∧ ∀ slot ∈ slots, (t.bar slot).move = (s.bar slot).move)
        ∧ s.speedFollows t
        ∧ t = { s with
            bars := t.bars, store := t.store, changes := t.changes, plan := t.plan, speedLine := t.speedLine
            moves := t.moves, ring := t.ring, alerts := t.alerts }
    let faults : List Status := [.badState, .notFound, .badValue, .leadInvalid, .badValue]
    let fails (i slot : Nat) : Bool :=
      match i, edits.find slot with
      | 0, some _ => decide ((s.bar slot).state = .parked)
      | 1, some edit => edit.program.any fun p => (s.sealOf p).isNone
      | 2, some edit => match edit.assignment with
        | .lead p entry => decide (s.courseLength p ≤ entry)
        | .follow _ _ _ => false
        | .withdrawn => false
      | 3, _ => match (config.getD slot coldConfig).assignment with
        | .follow leader _ _ =>
          leader == slot || (config.getD leader coldConfig).assignment.program.isNone
        | .lead _ => false
        | .none => false
      | 4, some edit => edit.limits.any fun lh => decide (lh.2 < lh.1)
      | _, _ => false
    ((∀ m ∈ s.changes.commitList, (s.committedEdits m).wf = true) → ∀ slot ∈ slots,
        let named := (s.changes.commitList.filterMap fun m => (s.committedEdits m).find slot) ++ (edits.find slot).toList
        (config.getD slot coldConfig).assignment
          = (named.getLast?.map fun edit => edit.assignment.made).getD (s.bar slot).assignment)
      ∧ (2147483647 < e.toNat → exec (.commitSet set e) s = .next (s.answered 7 (refusal .badValue)))
      ∧ (e.toNat ≤ 2147483647 →
        (∀ i slot, i < 5 → fails i slot = true → (∀ k, k < slot → fails i k = false) →
            (∀ j, j < i → ∀ k, fails j k = false) →
          exec (.commitSet set e) s = .next (s.answered 7 { status := faults.getD i .ok, body := beBytes 1 slot }))
        ∧ ((∀ i, i < 5 → ∀ k, fails i k = false) →
          (e ≠ 0 → e.toNat < s.greatestE → refused .order)
          ∧ (e ≠ 0 → s.greatestE ≤ e.toNat → e.toNat < minimum → refused .tooLate)
          ∧ (e ≠ 0 → s.greatestE ≤ e.toNat → minimum ≤ e.toNat → taken e.toNat)
          ∧ (e = 0 → 2147483647 < minimum → refused .tooLate)
          ∧ (e = 0 → minimum ≤ 2147483647 → taken (max s.greatestE minimum))))

/-- With the port idle and the commit list lawful, for a COMMITTED set: where its E meets the timing minimum (F + 1 moving;
stopped C + 1 where the angle is below us of the profile of every slot that a cascade set of E = C + 1 names or that
follows such a slot in the configuration of course C + 1, log 15, and C + 2 otherwise: R88, R90) the cascade's sets
become OPEN with their edits, the list keeps the sets before it, each program loses a reference for each of their LEAD
edits, the pin and the lead-in late flag fall of each slot they name and no set left names; a stopped cancel at or below
F replans as a commit does, in a lawful state (sizes, addresses, plan, held) with the record built, the copy for C + 1,
its alerts and the bars whose target changes commanded at once (R125, R136, R141); all else stays, P and the speed line
following, and the answer lists the cascade. Otherwise it is refused with TOO_LATE and the set's E. A FREE or OPEN set
is refused with BAD_STATE, a number above 3 with BAD_VALUE (R78). -/
def Obligations.CancelReopensTheCascade : Prop :=
  ∀ (s : State) (set : Byte), s.portIdle → s.changes.sets.length = 4 → s.bars.length = 64 → s.commitLaw →
    let n := set.toNat
    (4 ≤ n → exec (.cancelSet set) s = .next (s.answered 3 (refusal .badValue)))
    ∧ (n ≤ 3 → (∀ edits e, s.changeSet n ≠ .committed edits e) →
      exec (.cancelSet set) s = .next (s.answered 3 (refusal .badState)))
    ∧ ∀ (edits : KMap Edit) (e : Nat), s.changeSet n = .committed edits e →
      let before := s.changes.commitList.takeWhile fun m => m != n
      let gone := s.changes.commitList.dropWhile fun m => m != n
      let named (slot : Nat) : Bool := gone.any fun m => (s.committedEdits m).has slot
      let kept (slot : Nat) : Bool := before.any fun m => (s.committedEdits m).has slot
      let config := s.configAt (s.shaft.c + 1)
      let early (slot : Nat) : Bool :=
        gone.any fun m => decide (s.effectiveCourse m = s.shaft.c + 1) && (s.committedEdits m).has slot
      let follows (slot : Nat) : Bool :=
          match (config.getD slot coldConfig).assignment with
          | .follow leader _ _ => early leader
          | .lead _ => false
          | .none => false
      let minimum :=
        if s.shaft.state = .stopped then
          (if ∀ slot ∈ slots, early slot = true ∨ follows slot = true →
              s.shaft.angle < (s.profile (s.bar slot).profile).us then s.shaft.c + 1
            else s.shaft.c + 2)
        else s.plan.f + 1
      ((∀ m ∈ s.changes.commitList, (s.committedEdits m).wf = true) → ∀ slot ∈ slots,
          let applying := s.changes.commitList.filter fun m => decide (s.effectiveCourse m ≤ s.shaft.c + 1)
          let edited := applying.filterMap fun m => (s.committedEdits m).find slot
          (config.getD slot coldConfig).assignment
            = (edited.getLast?.map fun edit => edit.assignment.made).getD (s.bar slot).assignment)
      ∧ (e < minimum → exec (.cancelSet set) s = .next (s.answered 3 { status := .tooLate, body := beBytes 4 e }))
      ∧ (minimum ≤ e → (∀ m ∈ gone, ∀ k ∈ (s.committedEdits m).keys, k < 64) →
        ∃ t : State, exec (.cancelSet set) s
            = .next (t.answered 3
                (okReply (BitVec.ofNat 8 gone.length :: gone.map fun m => BitVec.ofNat 8 m)))
          ∧ t.changes.commitList = before
          ∧ (∀ m, t.changeSet m = if m ∈ gone then .opened (s.committedEdits m) else s.changeSet m)
          ∧ (∀ slot ∈ slots, { t.bar slot with move := (s.bar slot).move }
              = if named slot && !kept slot then { s.bar slot with pinned := false, leadInLate := false }
                else s.bar slot)
          ∧ t.store.free = s.store.free ∧ t.store.memory = s.store.memory
          ∧ (∀ m, (t.sealOf m).map (fun i => (i.courseLength, i.depth, i.refs))
              = (s.sealOf m).map fun i => (i.courseLength, i.depth,
                  i.refs - (gone.map fun k => (s.committedEdits k).cells.countP fun ke => ke.2.program == some m).sum))
          ∧ (s.shaft.state = .stopped ∧ e ≤ s.plan.f →
              (s.sizesLaw → s.addressLaw → s.planLaw → s.heldLaw → s.replanned t)
                ∧ t.plan.queue = [] ∧ t.plan.horizon = s.shaft.c ∧ t.plan.planning = false
                ∧ t.plan.current.course = s.shaft.c ∧ t.plan.planPosition = s.shaft.c + 1)
          ∧ (s.shaft.state ≠ .stopped ∨ s.plan.f < e →
              t.plan = { s.plan with p := t.plan.p } ∧ t.ring = s.ring ∧ t.alerts = s.alerts ∧ t.moves = s.moves
                ∧ ∀ slot ∈ slots, (t.bar slot).move = (s.bar slot).move)
          ∧ s.speedFollows t
          ∧ t = { s with
              bars := t.bars, store := t.store, changes := t.changes, plan := t.plan, speedLine := t.speedLine
              moves := t.moves, ring := t.ring, alerts := t.alerts })

/-- With the port idle, P the permitted speed and the tables of their sizes: a profile number above 7, then windows that
fail one of the five conditions (answered with the place of the first, counted from 0: log 22), then a profile in use
(answered with the lowest fitted slot engaged or pinned that names it) are refused. Otherwise the record is stored,
motion fields clamped, windows as carried, and answered; each IDLE bar naming it discards its move and enters BINDING,
each IDLE or BINDING one has a fresh attempt and, in UP, its BIND queued in the place of a control frame for its address
or at the tail, in slot order (log 35), where no two bound-side bars share an address; a MOVE for a bar that discards
its move is gone, and every other frame stays in its place; the tracker stands in the region of the angle. Every other
bar, attempt, tracker and block stays. -/
def Obligations.SetProfileReplacesARecord : Prop :=
  ∀ (s : State) (profile : Byte) (b : ProfileBytes), s.portIdle → s.speedLaw → s.sizesLaw → s.addressLaw →
    let n := profile.toNat
    let stored : Profile :=
      { tAcc := max 100 (min 20000 b.tAcc.toNat), tNs := max 50 (min 5000 b.tNs.toNat), tSet := min 5000 b.tSet.toNat
        shogMax := max 1 b.shogMax.toNat, os := b.os.toNat, oe := b.oe.toNat, us := b.us.toNat, ue := b.ue.toNat }
    let windows : List Bool :=
      [decide (16 ≤ stored.os), decide (stored.os + 32 ≤ stored.oe), decide (stored.oe ≤ stored.us),
        decide (stored.us + 32 ≤ stored.ue), decide (stored.ue ≤ 1008)]
    let uses (slot : Nat) : Prop :=
      (s.bar slot).state ≠ .unfitted ∧ (s.bar slot).profile = n
        ∧ ((s.bar slot).state.isEngaged = true ∨ (s.bar slot).pinned = true)
    (8 ≤ n → exec (.setProfile profile b) s = .next (s.answered 18 (refusal .badValue)))
    ∧ (n ≤ 7 → ∀ place, place < 5 → (windows.take place).all id = true → windows[place]? = some false →
        exec (.setProfile profile b) s
          = .next (s.answered 18 { status := .badValue, body := [BitVec.ofNat 8 place] }))
    ∧ (n ≤ 7 → windows.all id = true → ∀ slot, uses slot → (∀ k, k < slot → ¬uses k) →
        exec (.setProfile profile b) s = .next (s.answered 18 { status := .inUse, body := [BitVec.ofNat 8 slot] }))
    ∧ (n ≤ 7 → windows.all id = true → (∀ slot, ¬uses slot) →
        ∃ t : State, exec (.setProfile profile b) s = .next (t.answered 18 (okReply (profileItem stored)))
          ∧ t.profiles = s.profiles.set n stored
          ∧ (∀ slot ∈ slots, t.bar slot
              = if (s.bar slot).profile = n ∧ (s.bar slot).state = .idle then
                  { s.bar slot with state := .binding, move := none }
                else s.bar slot)
          ∧ (∀ slot ∈ slots, t.ring.attempts.find slot
              = if (s.bar slot).profile = n ∧ ((s.bar slot).state = .idle ∨ (s.bar slot).state = .binding) then
                  some freshAttempt
                else s.ring.attempts.find slot)
          ∧ (let rebinds (slot : Nat) : Bool := decide ((s.bar slot).profile = n ∧ (s.bar slot).state = .idle)
             let starts (slot : Nat) : Bool := rebinds slot || decide ((s.bar slot).profile = n ∧ (s.bar slot).state = .binding)
             let kept := s.ring.queue.filter fun q =>
               !slots.any fun slot => rebinds slot && q.isMoveFor (s.bar slot).address
             t.ring.queue = if s.ring.state = .up then controlsPlaced (s.bindsOf starts) kept else kept)
          ∧ t.ring = { s.ring with queue := t.ring.queue, attempts := t.ring.attempts }
          ∧ (t.tracker n).region = stored.regionAt s.shaft.angle ∧ (t.tracker n).heading = (s.tracker n).heading
          ∧ (∀ m, m ≠ n → t.tracker m = s.tracker m)
          ∧ t.moves = { s.moves with trackers := t.moves.trackers }
          ∧ t = { s with profiles := t.profiles, bars := t.bars, ring := t.ring, moves := t.moves })

/-- With the port idle: SET_SPEED_CAP while the frame is unwritten is refused with NO_FRAME. Otherwise S_cap becomes the
speed carried, or S_max where that is lower, the answer carries it, P is recomputed and the speed line follows, and
nothing else changes. With S_cap 0, P is 0 whatever the plan. S_cap is 0 after a cold reset and after the warm reset
that RESTART performs. -/
def Obligations.SpeedCapIsStored : Prop :=
  (∀ (s : State) (speed : BitVec 16), s.portIdle →
    (s.frame = none → exec (.setSpeedCap speed) s = .next (s.answered 4 (refusal .noFrame)))
    ∧ ∀ f : FrameConstants, s.frame = some f →
        let v := if f.sMax < speed.toNat then f.sMax else speed.toNat
        ∃ t : State, exec (.setSpeedCap speed) s = .next (t.answered 4 (okReply (beBytes 2 v)))
          ∧ t.plan.sCap = v
          ∧ s.speedFollows t
          ∧ t = { s with plan := { s.plan with sCap := v, p := t.plan.p }, speedLine := t.speedLine })
    ∧ (∀ s : State, s.plan.sCap = 0 → s.permittedSpeed = 0)
    ∧ (∀ (s t : State) (a b e : Bool), exec (.coldReset .powerOn a b e) s = .next t → t.plan.sCap = 0)
    ∧ ∀ s t : State, s.portIdle → exec .restart s = .next t → t.plan.sCap = 0

/-- With the port idle and the tables of their sizes: ACK_ALERT of a kind 0..15 answers its record as it stood and clears
it. SET_ALERT_LEVEL of a kind 1..15 sets its level, clamped to 1..15, and leaves the record. SET_STOP_THRESHOLD sets the
threshold, clamped to 1..15, and leaves the attention line. CLEAR_HALT is refused with INPUT_ACTIVE while the emergency
input is active; otherwise the latch is clear, EMERGENCY's record stays, and the answer carries the latch and the stop
line. After each the lines are as R170 and R171 give (the attention line under the last two as it was), P and the speed
line follow, and nothing else changes. Kinds above 15, and kind 0 for a level, are refused with BAD_VALUE. The bytes of
the latch and the line and the presence bytes of a record are those of log 7. -/
def Obligations.AlertRequests : Prop :=
  ∀ s : State, s.portIdle → s.sizesLaw →
    (∀ kind : Byte, kind.toNat ≤ 15 →
      ∃ t : State, exec (.ackAlert kind) s = .next (t.answered 3 (okReply (alertItem (s.alerts.record kind.toNat))))
        ∧ t.alerts = { s.alerts with
            records := s.alerts.records.set kind.toNat { pending := false, count := 0, slot := none, course := none }
            attention := t.alerts.attention, stop := t.alerts.stop }
        ∧ t.linesLaw ∧ s.speedFollows t
        ∧ t = { s with alerts := t.alerts, plan := { s.plan with p := t.plan.p }, speedLine := t.speedLine })
    ∧ (∀ kind level : Byte, 1 ≤ kind.toNat → kind.toNat ≤ 15 →
      let v := if level.toNat = 0 then 1 else if 15 < level.toNat then 15 else level.toNat
      ∃ t : State, exec (.setAlertLevel kind level) s = .next (t.answered 4 (okReply [BitVec.ofNat 8 v]))
        ∧ t.alerts = { s.alerts with
            levels := s.alerts.levels.set kind.toNat v, attention := t.alerts.attention, stop := t.alerts.stop }
        ∧ t.linesLaw ∧ s.speedFollows t
        ∧ t = { s with alerts := t.alerts, plan := { s.plan with p := t.plan.p }, speedLine := t.speedLine })
    ∧ (∀ threshold : Byte,
      let v := if threshold.toNat = 0 then 1 else if 15 < threshold.toNat then 15 else threshold.toNat
      ∃ t : State, exec (.setStopThreshold threshold) s = .next (t.answered 3 (okReply [BitVec.ofNat 8 v]))
        ∧ t.alerts = { s.alerts with threshold := v, stop := s.alerts.haltLatch || s.alerts.pendingBelow v }
        ∧ s.speedFollows t
        ∧ t = { s with alerts := t.alerts, plan := { s.plan with p := t.plan.p }, speedLine := t.speedLine })
    ∧ (s.alerts.emergencyActive = true → exec .clearHalt s = .next (s.answered 2 (refusal .inputActive)))
    ∧ (s.alerts.emergencyActive = false →
      ∃ t : State, exec .clearHalt s = .next (t.answered 2 (okReply [1, if t.alerts.stop then 0 else 1]))
        ∧ t.alerts = { s.alerts with haltLatch := false, stop := s.alerts.pendingBelow s.alerts.threshold }
        ∧ s.speedFollows t
        ∧ t = { s with alerts := t.alerts, plan := { s.plan with p := t.plan.p }, speedLine := t.speedLine })
    ∧ (∀ kind level : Byte, 16 ≤ kind.toNat →
        exec (.ackAlert kind) s = .next (s.answered 3 (refusal .badValue))
          ∧ exec (.setAlertLevel kind level) s = .next (s.answered 4 (refusal .badValue)))
    ∧ ∀ level : Byte, exec (.setAlertLevel 0 level) s = .next (s.answered 4 (refusal .badValue))

/-- With the port idle: where the frame is written SET_FRAME is refused with WRITTEN_ONCE and the constants; a gauge outside
5..40 is refused with BAD_VALUE. Otherwise, in a lawful state with every slot unfitted, the constants are stored, all
but gauge and mask clamped, and answered; each slot of the mask is PARKED with every field at its cold value, each other
stays; the ring is TRAINING with run 0 and its first marker sent; the current record is course C with no entries and
ceiling S_max, the plan position C + 1, and planning begins unless it is suspended or has no course left; no alert is
raised. All else stays, P and the speed line following; with S_cap 0, P is 0. -/
def Obligations.SetFrameIsWrittenOnce : Prop :=
  ∀ (s : State) (b : FrameBytes), s.portIdle →
    (∀ f : FrameConstants, s.frame = some f →
      exec (.setFrame b) s = .next (s.answered 16 { status := .writtenOnce, body := frameItem f }))
    ∧ (s.frame = none → b.gauge.toNat < 5 ∨ 40 < b.gauge.toNat →
      exec (.setFrame b) s = .next (s.answered 16 (refusal .badValue)))
    ∧ (s.frame = none → 5 ≤ b.gauge.toNat → b.gauge.toNat ≤ 40 → s.sizesLaw → s.linkLaw → s.planLaw → s.assignmentLaw →
      let stored : FrameConstants :=
        { gauge := b.gauge.toNat, fitted := b.fitted, d := max 1 (min 200 b.d.toNat)
          sMax := max 100 (min 1500 b.sMax.toNat), tolerance := max 1 (min 1000 b.tolerance.toNat) }
      ∃ t : State, exec (.setFrame b) s = .next (t.answered 16 (okReply (frameItem stored)))
        ∧ t.frame = some stored
        ∧ (∀ slot ∈ slots, t.bar slot
            = if b.fitted.getLsbD slot then
                { state := .parked, address := 0, profile := 0, trim := 0, low := 0, high := 511, assignment := .none
                  cursor := none, position := 0, move := none, leadInLate := false, driveFault := 0, pinned := false }
              else s.bar slot)
        ∧ t.ring = { s.ring with
            state := .training
            markerRun := 0
            transit := s.ring.transit ++ [markerInTransit s.ring.nextSeq s.now]
            nextSeq := s.ring.nextSeq + 1
            out := withCheck (markerBytes s.ring.nextSeq) }
        ∧ t.plan.current
            = { course := s.shaft.c, ceiling := stored.sMax, cause := .none, offending := none, entries := [] }
        ∧ t.plan = { s.plan with
            current := t.plan.current, layout := t.plan.layout, planPosition := s.shaft.c + 1
            planning := t.plan.planning, p := t.plan.p }
        ∧ t.plan.layout = t.advance t.shaft.c t.knitLayout
        ∧ (s.plan.suspended = false → s.plan.queue = [] → s.shaft.c < 2147483647 → t.plan.planning = true)
        ∧ (s.plan.suspended = true → t.plan.planning = false)
        ∧ t.moves = (if s.moves.held.course = s.shaft.c then { s.moves with held := t.plan.current }
            else { s.moves with nextRecord := some t.plan.current })
        ∧ (s.plan.sCap = 0 → t.plan.p = 0)
        ∧ s.speedFollows t
        ∧ t = { s with
            frame := t.frame, bars := t.bars, ring := t.ring, plan := t.plan, moves := t.moves, speedLine := t.speedLine })

/-- With the port idle, in either piece state: SET_PIECE_LENGTH takes its length clamped to 1..1,000,000 as the preload, and
while PAUSED as the count; START_PIECES makes the state COUNTING, PAUSE_PIECES PAUSED, each keeping the rest;
CLEAR_PIECES sets pieces to 0 and the count to the preload and keeps the state; QUERY_PIECES changes nothing. Each
answers OK with the state, preload, count and pieces as they stand after it, and nothing but the counter and the port
changes. The clauses of R182 on a course entry that meets a request follow, each command being taken whole. -/
def Obligations.PieceRequests : Prop :=
  ∀ s : State, s.portIdle →
    let becomes (p : PieceCounter) (n : Nat) : State := ({ s with pieces := p } : State).answered n (okReply
      ((match p.state with
        | .paused => (0 : Byte)
        | .counting => 1) :: (beBytes 3 p.preload ++ beBytes 3 p.count ++ beBytes 2 p.pieces)))
    (∀ length : BitVec 32,
      let v := if length.toNat = 0 then 1 else if 1000000 < length.toNat then 1000000 else length.toNat
      (s.pieces.state = .paused →
        exec (.setPieceLength length) s = .next (becomes { s.pieces with preload := v, count := v } 6))
      ∧ (s.pieces.state = .counting →
        exec (.setPieceLength length) s = .next (becomes { s.pieces with preload := v } 6)))
    ∧ exec .startPieces s = .next (becomes { s.pieces with state := .counting } 2)
    ∧ exec .pausePieces s = .next (becomes { s.pieces with state := .paused } 2)
    ∧ exec .clearPieces s = .next (becomes { s.pieces with pieces := 0, count := s.pieces.preload } 2)
    ∧ exec .queryPieces s = .next (becomes s.pieces 2)

/-- With the port idle and the tables of their sizes, RESTART leaves the port PERFORMING it with the reset kind WARM; the
shaft STOPPED without period; every set FREE; programs, pages and steps kept with each count the LEAD bars; bars back to
BINDING or REBINDING where bound, no move, pin or late flag; records cleared but that of TRAVEL, or of SHOG_LIMIT for
SHOG_LIMIT and TIMING, which the rebuilt record raises with its offending slot and C where it is blocked for that cause
(R119, R123), levels, threshold and latch kept; the queue empty, H = C, S_cap and P 0, the current and held record that
built for C from the bar records and knit cursors, the plan state the copy from them for C + 1 (R132); the ring
retraining where the frame is written, attempts fresh; trackers placed. Frame, profiles and pieces stay.
WARM_RESET_COMPLETE of it takes the emergency level, wants a speed message and answers OK with the reset kind; otherwise
it changes nothing (log 3). The two commands are the model's form of one reset (log 19); that BLOCKED_ENTRY stands
cleared is log 8, that the idle timer is kept log 27, the start points it clears log 37. -/
def Obligations.WarmResetBlockByBlock : Prop :=
  ∀ s : State,
    (s.portIdle → s.sizesLaw →
      ∃ t : State, exec .restart s = .next t
        ∧ t.port = { s.port with inFlight := some .restart, held := none, resetKind := .warm, dataOut := [0, 0] }
        ∧ t.shaft = { s.shaft with state := .stopped, stall := 500000, runStart := none, period := none }
        ∧ t.changes = { sets := [.free, .free, .free, .free], commitList := [] }
        ∧ t.profiles = s.profiles ∧ t.frame = s.frame ∧ t.pieces = s.pieces ∧ t.now = s.now ∧ t.pending = s.pending
        ∧ t.store.free = s.store.free ∧ t.store.memory = s.store.memory
        ∧ (∀ n, t.store.programs.find n = (s.store.programs.find n).map fun p =>
            { p with sealInfo := p.sealInfo.map fun i => { i with refs := s.leadsOf n } })
        ∧ (∀ slot ∈ slots, t.bar slot = { s.bar slot with
            state := match (s.bar slot).state with
              | .idle => .binding
              | .engaged => .rebinding
              | .faulted => .rebinding
              | .unfitted => .unfitted
              | .parked => .parked
              | .binding => .binding
              | .rebinding => .rebinding
            move := none, pinned := false, leadInLate := false })
        ∧ (∀ kind, kind < 16 → kind ≠ 8 → kind ≠ 9 → t.alerts.record kind = clearAlert)
        ∧ t.alerts = { s.alerts with
            records := t.alerts.records, attention := t.alerts.attention, stop := t.alerts.stop }
        ∧ t.linesLaw
        ∧ t.plan.queue = [] ∧ t.plan.horizon = s.shaft.c ∧ t.plan.planning = false ∧ t.plan.suspended = false
        ∧ t.plan.planPosition = s.shaft.c + 1 ∧ t.plan.current.course = s.shaft.c ∧ t.plan.floor = s.plan.floor
        ∧ t.plan.sCap = 0 ∧ t.plan.p = 0 ∧ s.speedFollows t
        ∧ t.moves.held = t.plan.current ∧ t.moves.nextRecord = none ∧ t.moves.heldHold = s.shaft.hold
        ∧ t.moves.nextTags = s.moves.nextTags ∧ t.moves.starts = List.replicate 64 none
        ∧ t.plan.current = t.builtRecord ∧ t.plan.layout = t.advance t.shaft.c t.knitLayout
        ∧ t.alerts.record 8
          = (if t.plan.current.cause = .travel then clearAlert.raised t.plan.current.offending (some s.shaft.c)
            else clearAlert)
        ∧ t.alerts.record 9
          = (if t.plan.current.cause = .shogLimit ∨ t.plan.current.cause = .timing then
              clearAlert.raised t.plan.current.offending (some s.shaft.c)
            else clearAlert)
        ∧ (∀ n ∈ profileNumbers, t.tracker n
            = { s.tracker n with region := (s.profile n).regionAt s.shaft.angle })
        ∧ (s.frame = none → t.ring = { s.ring with
            state := .down, markerRun := 0, losses := 0, transit := [], queue := [], attempts := t.ring.attempts })
        ∧ (s.frame ≠ none → t.ring = { s.ring with
            state := .training, markerRun := 0, losses := 0
            transit := [markerInTransit s.ring.nextSeq s.now], nextSeq := s.ring.nextSeq + 1, queue := []
            attempts := t.ring.attempts, out := withCheck (markerBytes s.ring.nextSeq) })
        ∧ ∀ slot ∈ slots, t.ring.attempts.find slot
            = if (t.bar slot).state.isBinding then some freshAttempt else none)
    ∧ (∀ e : Bool, s.port.inFlight = some .restart →
        exec (.warmResetComplete e) s
          = .next { s with
              alerts := { s.alerts with emergencyActive := e }
              speedLine := s.speedLine.wanted s.plan.p
              port := { s.port with
                inFlight := none
                held := some
                  { reply := okReply [match s.port.resetKind with
                      | .cold => 0
                      | .warm => 1]
                    wasRead := false } } })
    ∧ ∀ e : Bool, s.port.inFlight ≠ some .restart → exec (.warmResetComplete e) s = .next s

/-- COLD_RESET at power-on, or of the reset input held for at least 10 microseconds, answers the cold state with the channel
and emergency levels it finds, the queue of commands kept: C, angle, overrun and hold 0, angle not found, no slip
raised, STOPPED with the stall timer at 500,000, no run and no period (R15); 64 unfitted bars with no assignment, cursor
or move, limits 0..511, no flag, and every other field 0 (R37); 512 free pages and no program or step; four FREE sets;
the 8 profiles at 3000, 500, 400, 48, 128, 320, 576, 896 (R96, R110); the record of course 0 with ceiling 0 and no
entries current and held, H, the floor, S_cap and P 0, nothing planned or suspended, plan position 1, no plan cursor and
nothing in the plan configuration (R131); 8 trackers in PRE heading FORWARD, next tags 0, no next record, held hold
count 0 (R149), no start point (log 37); the ring DOWN with nothing queued, in transit or attempted and every count 0;
no alert pending and every record clear, the threshold 15, the halt latch set and the stop line asserted; the frame
unwritten; pieces PAUSED at 480; the port idle with no response and the reset kind COLD; and the speed message of P = 0
being sent. Held for less, it changes nothing. State.reset keeps every law of Safety.lean that a step keeps. The model's
choices: the levels right after reset (log 4), the clock at 0 (log 2), a message under way dropped for [0, 0, 0] (log
23). -/
def Obligations.ColdResetTakesEveryBlock : Prop :=
  (∀ (s : State) (held : Nat) (a b e : Bool),
    exec (.coldReset .powerOn a b e) s = .next { coldState a b e with pending := s.pending }
      ∧ (10 ≤ held → exec (.coldReset (.resetInput held) a b e) s = .next { coldState a b e with pending := s.pending })
      ∧ (held < 10 → exec (.coldReset (.resetInput held) a b e) s = .next s))
    ∧ (∀ a b e : Bool,
        let t := coldState a b e
        t.shaft.levelA = a ∧ t.shaft.levelB = b ∧ t.shaft.angle = 0 ∧ t.shaft.overrun = 0 ∧ t.shaft.angleFound = false
          ∧ t.shaft.state = .stopped ∧ t.shaft.c = 0 ∧ t.shaft.hold = 0 ∧ t.shaft.period = none
          ∧ t.bars.length = 64 
          ∧ t.shaft.overrunSide = .forward ∧ t.shaft.slipRaised = false ∧ t.shaft.stall = 500000 ∧ t.shaft.runStart = none
          ∧ (∀ bar ∈ t.bars,
              bar.state = .unfitted ∧ bar.address = 0 ∧ bar.profile = 0 ∧ bar.trim = 0 ∧ bar.low = 0 ∧ bar.high = 511
                ∧ bar.assignment = .none ∧ bar.cursor = none ∧ bar.position = 0 ∧ bar.move = none
                ∧ bar.leadInLate = false ∧ bar.driveFault = 0 ∧ bar.pinned = false)
          ∧ t.store.free = List.range 512 ∧ t.store.programs.cells = []
          ∧ t.changes.sets = [.free, .free, .free, .free] ∧ t.changes.commitList = []
          ∧ t.store.memory.cells = []
          ∧ t.profiles.length = 8
          ∧ (∀ p ∈ t.profiles, p.tAcc = 3000 ∧ p.tNs = 500 ∧ p.tSet = 400 ∧ p.shogMax = 48
              ∧ p.os = 128 ∧ p.oe = 320 ∧ p.us = 576 ∧ p.ue = 896)
          ∧ t.plan.current = { course := 0, ceiling := 0, cause := .none, offending := none, entries := [] }
          ∧ t.plan.planning = false ∧ t.plan.suspended = false ∧ t.plan.planPosition = 1
          ∧ t.plan.layout.cursors.cells = [] ∧ t.plan.layout.config.length = 64
          ∧ (∀ c ∈ t.plan.layout.config, c.assignment = .none ∧ c.low = 0 ∧ c.high = 511)
          ∧ t.moves.trackers.length = 8 ∧ (∀ k ∈ t.moves.trackers, k.region = .pre ∧ k.heading = .forward)
          ∧ t.moves.held = { course := 0, ceiling := 0, cause := .none, offending := none, entries := [] }
          ∧ t.moves.nextRecord = none ∧ t.moves.heldHold = 0
          ∧ t.moves.nextTags.length = 64 ∧ (∀ tag ∈ t.moves.nextTags, tag = 0)
          ∧ t.moves.starts.length = 64 ∧ (∀ start ∈ t.moves.starts, start = none)
          ∧ t.plan.queue = [] ∧ t.plan.horizon = 0 ∧ t.plan.sCap = 0 ∧ t.plan.p = 0 ∧ t.plan.floor = 0
          ∧ t.speedLine.sending = some [0, 0, 0] ∧ t.speedLine.again = false
          ∧ t.ring.state = .down ∧ t.ring.nextSeq = 0 ∧ t.ring.transit = [] ∧ t.ring.queue = []
          ∧ t.ring.markerRun = 0 ∧ t.ring.losses = 0 ∧ t.ring.idle = 0 ∧ t.ring.attempts.cells = []
          ∧ t.alerts.records.length = 16
          ∧ (∀ r ∈ t.alerts.records, r.pending = false ∧ r.count = 0 ∧ r.slot = none ∧ r.course = none) ∧ t.alerts.threshold = 15 ∧ t.alerts.haltLatch = true
          ∧ t.alerts.levels = [0, 1, 2, 2, 3, 2, 2, 3, 6, 6, 4, 4, 8, 10, 12, 12]
          ∧ t.alerts.emergencyActive = e ∧ t.alerts.stop = true ∧ t.alerts.attention = false
          ∧ t.frame = none
          ∧ t.pieces = { state := .paused, preload := 480, count := 480, pieces := 0 }
          ∧ t.port.inFlight = none ∧ t.port.held = none ∧ t.port.resetKind = .cold)
    ∧ State.reset.linesLaw ∧ State.reset.speedLaw ∧ State.reset.floorLaw ∧ State.reset.addressLaw ∧ State.reset.linkLaw
    ∧ State.reset.planLaw ∧ State.reset.commitLaw ∧ State.reset.storeLaw ∧ State.reset.programsLaw
    ∧ State.reset.sizesLaw ∧ State.reset.windowsLaw ∧ State.reset.trackersLaw ∧ State.reset.rangesLaw
    ∧ State.reset.assignmentLaw ∧ State.reset.refsLaw ∧ State.reset.cursorLaw
    ∧ State.reset.heldLaw ∧ State.reset.followLaw ∧ State.reset.limitsLaw

/-- For a read of at least one byte, the part shifts out as many bytes as are clocked: 0, then the status, the two bytes of
the body length and the body of the answer, then 0 in every place beyond. While PERFORMING the answer is PENDING with no
body and the held response stays; idle, it is the held response, unread or read, which becomes read and stays held; idle
without one it is BAD_STATE with no body. The port state and everything else stay, so a second read is answered as the
first, and a read of fewer bytes than the response still marks it read. -/
def Obligations.ReadShiftsOutTheHeldResponse : Prop :=
  ∀ (s : State) (n : Nat), 0 < n →
    ∃ t : State, exec (.read n) s = .next t
      ∧ t = { s with port := { s.port with dataOut := t.port.dataOut, held := t.port.held } }
      ∧ t.port.dataOut.length = n
      ∧ let shifts (r : Reply) : Prop :=
          ∀ i, i < n →
            t.port.dataOut[i]? = some ((0 :: r.status.code :: (beBytes 2 r.body.length ++ r.body)).getD i 0)
        (s.port.inFlight ≠ none → shifts { status := .pending, body := [] } ∧ t.port.held = s.port.held)
          ∧ (s.port.inFlight = none → ∀ h, s.port.held = some h →
              shifts h.reply ∧ t.port.held = some { h with wasRead := true })
          ∧ (s.port.inFlight = none → s.port.held = none →
              shifts { status := .badState, body := [] } ∧ t.port.held = none)

/-- While a request is in flight, every request of the request table answers the state in which the part has shifted out
BUSY and zeros, one byte for each byte of the message, and nothing else has changed: the request in flight and the held
response stay. So does a message of an unknown code. The command BUSY does the same with its message whatever the port
does now (log 14). -/
def Obligations.PerformingPortRefusesWithBusy : Prop :=
  ∀ s : State,
    let shifted (n : Nat) : State := { s with port := { s.port with dataOut := 2 :: List.replicate n 0 } }
    (∀ (i : Instr) (code : Byte) (rest : List Byte), s.port.inFlight ≠ none → encodeRequest i = some (code :: rest) →
        exec i s = .next (shifted rest.length))
      ∧ (∀ (code : Byte) (rest : List Byte), s.port.inFlight ≠ none → code ≠ 0 →
        exec (.unknown (code :: rest)) s = .next (shifted rest.length))
      ∧ ∀ (code : Byte) (rest : List Byte), exec (.busy (code :: rest)) s = .next (shifted rest.length)

/-- With the port idle, a message whose code is not in the request table is answered at once with UNKNOWN and no body; one
whose length byte is missing, or is not the number of body bytes, or whose body is not of its code's length, with
BAD_LENGTH; nothing but the port changes. A message that spells a well-formed request does what that request does, and a
first byte of 0 makes a read (log 13). No whole byte changes nothing. Code 33 takes 3 + 5 x n body bytes, n up to 50,
and no other number; codes 16 and 49 take 1 and 17. -/
def Obligations.MessagesAreChecked : Prop :=
  (∀ (s : State) (code : Byte) (rest : List Byte), s.portIdle → code ≠ 0 →
    (bodyReader code = none →
      exec (.unknown (code :: rest)) s = .next (s.answered (rest.length + 1) (refusal .unknown)))
    ∧ (bodyReader code ≠ none →
        (rest = [] ∨ ∃ length body, rest = length :: body
          ∧ (length.toNat ≠ body.length ∨ ∀ reader, bodyReader code = some reader → reader body = none)) →
      exec (.unknown (code :: rest)) s = .next (s.answered (rest.length + 1) (refusal .badLength))))
    ∧ (∀ (s : State) (i : Instr) (message : List Byte), wellFormed i = true → encodeRequest i = some message →
        exec (.unknown message) s = exec i s)
    ∧ (∀ (s : State) (rest : List Byte), exec (.unknown (0 :: rest)) s = exec (.read (rest.length + 1)) s)
    ∧ (∀ s : State, exec (.unknown []) s = .next s)
    ∧ (∀ (body : List Byte) (length : Byte), length.toNat = body.length →
        (parseMessage (33 :: length :: body) = .badLength ↔ ∀ n, n ≤ 50 → body.length ≠ 3 + 5 * n)
          ∧ (parseMessage (16 :: length :: body) = .badLength ↔ body.length ≠ 1)
          ∧ (parseMessage (49 :: length :: body) = .badLength ↔ body.length ≠ 17))

/-- For every well-formed command that is a request, the message written for it is read as that request, with every operand
at every value its field carries. For every run of bytes that is read as a request, that request is well formed and its
message is those bytes: no two messages spell one request, and no bit of a message is dropped. -/
def Obligations.RequestMessagesRoundTrip : Prop :=
  (∀ (i : Instr) (message : List Byte), wellFormed i = true → encodeRequest i = some message →
    parseMessage message = .request i)
    ∧ ∀ (i : Instr) (message : List Byte), parseMessage message = .request i →
        wellFormed i = true ∧ encodeRequest i = some message

/-- From every state whose attention line and stop line are what the records, levels, threshold and halt latch make them,
every step leads to such a state; and from every state whose P is the permitted speed, every step leads to such a state:
P never exceeds S_cap, the horizon term or a ceiling term, and is 0 while the stop line is asserted, a bar is FAULTED or
REBINDING or the frame is unwritten. The speed line and the moment of the recomputation are those of log 5. -/
def Obligations.LinesAndSpeedFollowEveryStep : Prop :=
  (∀ s t : State, s.linesLaw → step s = .next t → t.linesLaw)
    ∧ (∀ s t : State, s.speedLaw → step s = .next t → t.speedLaw)
    ∧ ∀ s : State, s.speedLaw →
        (s.frame = none ∨ s.alerts.stop = true ∨ (∃ b ∈ s.bars, b.state = .faulted ∨ b.state = .rebinding) →
          s.plan.p = 0)
        ∧ ∀ f : FrameConstants, s.frame = some f →
            s.plan.p ≤ s.plan.sCap ∧ s.plan.p ≤ (s.plan.horizon + 1 - s.shaft.c) * f.d
              ∧ ∀ r ∈ s.plan.records, s.plan.p ≤ r.ceiling + (r.course - s.shaft.c) * f.d

/-- From every state in which no two bars outside PARKED and UNFITTED hold the same drive address, every step leads to such
a state. From every state with the tables of their sizes in which the ring is DOWN exactly while the frame is unwritten,
every slot is UNFITTED while it is, and a bar stands in IDLE, ENGAGED or FAULTED only while the ring is UP, every step
leads to such a state. -/
def Obligations.AddressesAndLinkStay : Prop :=
  (∀ s t : State, s.addressLaw → step s = .next t → t.addressLaw)
    ∧ ∀ s t : State, s.sizesLaw → s.linkLaw → step s = .next t → t.linkLaw

/-- From every state in which the floor is at most C, the current record is that of C, the queue holds the records of C + 1
to H (at most 32), suspended says REVERSE and nothing planned, and the commit list names each COMMITTED set once, each
with an E above C and those E not decreasing, every step leads to such a state. From every state that keeps the plan
law, in which the Move Unit holds the current record and the hold count and no next record waits, every step leads to
such a state. -/
def Obligations.CoursesKeepTheirOrder : Prop :=
  (∀ s t : State, s.floorLaw → s.planLaw → s.commitLaw → step s = .next t → t.floorLaw ∧ t.planLaw ∧ t.commitLaw)
    ∧ ∀ s t : State, s.planLaw → s.heldLaw → step s = .next t → t.heldLaw

/-- From every state in which each of the 512 pages stands once, in the rising free set or in one page list, and the tables
are in their canonical form, every step leads to such a state. Where moreover the programs hold the pages and written
steps they should, the steps of each SEALED one are what their seal gives, no SEALED program lacks a count of its uses
and a seal in flight is of a whole OPEN program, every step keeps that too. -/
def Obligations.PatternStoreKeepsItsPages : Prop :=
  (∀ s t : State, s.storeLaw → step s = .next t → t.storeLaw)
    ∧ ∀ s t : State, s.storeLaw → s.programsLaw → step s = .next t → t.programsLaw

/-- From every state with 64 bars, next tags and start points, 8 profiles and trackers, 4 sets, 16 alert records and levels,
every step leads to such a state; so does every step from a state whose profiles satisfy the five window conditions; and
from a state of those sizes whose angle lies in 0..1023 and whose trackers name the regions of that angle and, while the
shaft turns, its direction (R133, R134). From every state in which each bar record, each next tag, each start point,
each alert level, each record that is not blocked (current, queued, held or next) and the limits of each edit lie in
their ranges, low at most high for every bar and every committed edit, every step leads to such a state; the target of
every outstanding move, sent from a blocked record or not, so lies in 0..511. -/
def Obligations.TablesAndValuesKeepTheirForm : Prop :=
  (∀ s t : State, s.sizesLaw → step s = .next t → t.sizesLaw)
    ∧ (∀ s t : State, s.windowsLaw → step s = .next t → t.windowsLaw)
    ∧ (∀ s t : State, s.sizesLaw → s.trackersLaw → step s = .next t → t.trackersLaw)
    ∧ ∀ s t : State, s.rangesLaw → step s = .next t → t.rangesLaw

/-- From every lawful state (sizes, ranges, link, plan, commit, assignment, held) in which each entry of the current record
and the queue is of a bar engaged at its course or the next and, where the record is not blocked, keeps to the limits
that stand at that course and the next, the plan configuration being that of H + 1, every step leads to a state in which
the same holds (R113, R117). Where a step gives a bar an outstanding move it did not have, the target lies within the
limits of the bar as they stood before the step, low at most high (R137). The start point of a bar is the target of its
outstanding move, or its position without one; the kept one is that of its last command, where it had one (log 37). The
clamping of R137 takes the position to the nearer limit, then to at most shog_max from the start point, then to the
nearer limit again: it gives a position within any limits with low at most high, leaves one that lies within them and
within shog_max of the start point as it is, and moves by at most shog_max from a start point within the limits. -/
def Obligations.MoveTargetsKeepTheLimits : Prop :=
  (∀ s t : State, s.sizesLaw → s.rangesLaw → s.linkLaw → s.planLaw → s.commitLaw → s.assignmentLaw → s.heldLaw →
      s.limitsLaw → step s = .next t →
    t.limitsLaw
      ∧ ∀ slot ∈ slots, ∀ m ∈ (t.bar slot).move, (s.bar slot).move ≠ some m →
          (s.bar slot).low ≤ m.target ∧ m.target ≤ (s.bar slot).high)
    ∧ (∀ b : Bar, (b.move = none → b.startPoint = b.position) ∧ ∀ m, b.move = some m → b.startPoint = m.target)
    ∧ (∀ (s : State) (slot : Nat), s.keptStart slot = match s.moves.starts[slot]? with
        | some (some start) => start
        | some none => (s.bar slot).startPoint
        | none => (s.bar slot).startPoint)
    ∧ ∀ (b : Bar) (p : Profile) (start x : Int), b.low ≤ b.high →
        let y := clampTarget b p start x
        let within := max b.low (min b.high x)
        let reached := max (start - p.shogMax) (min (start + p.shogMax) within)
        y = max b.low (min b.high reached)
          ∧ b.low ≤ y ∧ y ≤ b.high
          ∧ (b.low ≤ x → x ≤ b.high → (x - start).natAbs ≤ p.shogMax → y = x)
          ∧ (b.low ≤ start → start ≤ b.high → (y - start).natAbs ≤ p.shogMax)

/-- From every state that keeps the sizes of the tables, the link law, the plan law and the commit law, in which assignments
stand exactly in ENGAGED, FAULTED and REBINDING, each cursor stands in the program its bar leads, a bar is pinned
exactly while a committed set names it and is then not PARKED, and the edits of every set stand in slot order and name
fitted slots, every step leads to such a state. -/
def Obligations.AssignmentsAndPinsAgree : Prop :=
  ∀ s t : State, s.sizesLaw → s.linkLaw → s.planLaw → s.commitLaw → s.assignmentLaw → step s = .next t → t.assignmentLaw

/-- From every lawful state (sizes, link, plan, commit, assignment) in whose bar records, and in each configuration the
commit list brings them to from its head, every follower's lead is another slot that leads a program, every step leads
to such a state. In such a state the lead of every bar that follows is a different bar that is a LEAD in ENGAGED,
FAULTED or REBINDING (R85). In every layout, a follower's pair is its lead's pair (a, b) taken to a + offset and b +
offset without mirror, to offset - a and offset - b with it; a shog between two positions keeps its size; for a lead
position in 0..511 and an offset in -511..511 it lies in -511..1022 without mirror and in -1022..511 with it (R67). -/
def Obligations.FollowersFollowAnEngagedLead : Prop :=
  (∀ s t : State, s.sizesLaw → s.linkLaw → s.planLaw → s.commitLaw → s.assignmentLaw → s.followLaw → step s = .next t →
    t.followLaw)
    ∧ (∀ s : State, s.sizesLaw → s.assignmentLaw → s.followLaw → ∀ slot ∈ slots, ∀ leader offset mirror,
        (s.bar slot).assignment = .follow leader offset mirror →
        leader ≠ slot ∧ (∃ program, (s.bar leader).assignment = .lead program)
          ∧ ((s.bar leader).state = .engaged ∨ (s.bar leader).state = .faulted ∨ (s.bar leader).state = .rebinding))
    ∧ (∀ (s : State) (l : Layout) (slot leader program : Nat) (offset a b : Int) (mirror : Bool),
        (l.config.getD slot coldConfig).assignment = .follow leader offset mirror →
        (l.config.getD leader coldConfig).assignment = .lead program → s.pairIn l leader = some (a, b) →
        s.pairIn l slot = some (if mirror then (offset - a, offset - b) else (a + offset, b + offset)))
    ∧ ∀ (offset x y : Int) (mirror : Bool),
        (followPosition offset mirror x - followPosition offset mirror y).natAbs = (x - y).natAbs
          ∧ (0 ≤ x → x ≤ 511 → -511 ≤ offset → offset ≤ 511 →
              if mirror then -1022 ≤ followPosition offset mirror x ∧ followPosition offset mirror x ≤ 511
              else -511 ≤ followPosition offset mirror x ∧ followPosition offset mirror x ≤ 1022)

/-- From every lawful state (sizes, link, plan, commit, assignment, store, programs) in which each SEALED program's
reference count is the number of bar records that lead it plus the LEAD edits of committed sets naming it, and every
program with such a use is SEALED, every step leads to a state in which the same holds. -/
def Obligations.ReferencesCountTheUses : Prop :=
  ∀ s t : State, s.sizesLaw → s.linkLaw → s.planLaw → s.commitLaw → s.assignmentLaw → s.storeLaw → s.programsLaw →
    s.refsLaw → step s = .next t → t.refsLaw

/-- From every lawful state (sizes, link, plan, commit, assignment, store, programs, references) in which every LEAD bar
holds a knit cursor that is the placement of its program course in its program, below the course length, and every LEAD
edit of a committed set enters below the course length, every step leads to a state in which the same holds. -/
def Obligations.KnitCursorsStandWhereTheirCourseSays : Prop :=
  ∀ s t : State, s.sizesLaw → s.linkLaw → s.planLaw → s.commitLaw → s.assignmentLaw → s.storeLaw → s.programsLaw →
    s.refsLaw → s.cursorLaw → step s = .next t → t.cursorLaw
end

