-- ==== Sys2Proof/Laws/State.lean ====
section
/-! SUPPORT. What each update of one block does to each field of the state: true by rfl, so that no later proof unfolds a record
update. A conjunction tagged simp is one rewriting rule for each of its fields. -/

namespace Sys2Proof.Machine

@[simp] theorem State.onShaft_fields (s : State) (f : Shaft → Shaft) :
    (s.onShaft f).shaft = f s.shaft ∧ (s.onShaft f).bars = s.bars ∧ (s.onShaft f).store = s.store ∧
    (s.onShaft f).changes = s.changes ∧ (s.onShaft f).profiles = s.profiles ∧ (s.onShaft f).plan = s.plan ∧
    (s.onShaft f).speedLine = s.speedLine ∧ (s.onShaft f).moves = s.moves ∧ (s.onShaft f).ring = s.ring ∧
    (s.onShaft f).alerts = s.alerts ∧ (s.onShaft f).frame = s.frame ∧ (s.onShaft f).pieces = s.pieces ∧
    (s.onShaft f).port = s.port ∧ (s.onShaft f).now = s.now ∧ (s.onShaft f).pending = s.pending :=
  ⟨rfl, rfl, rfl, rfl, rfl, rfl, rfl, rfl, rfl, rfl, rfl, rfl, rfl, rfl, rfl⟩

@[simp] theorem State.onStore_fields (s : State) (f : PatternStore → PatternStore) :
    (s.onStore f).shaft = s.shaft ∧ (s.onStore f).bars = s.bars ∧ (s.onStore f).store = f s.store ∧
    (s.onStore f).changes = s.changes ∧ (s.onStore f).profiles = s.profiles ∧ (s.onStore f).plan = s.plan ∧
    (s.onStore f).speedLine = s.speedLine ∧ (s.onStore f).moves = s.moves ∧ (s.onStore f).ring = s.ring ∧
    (s.onStore f).alerts = s.alerts ∧ (s.onStore f).frame = s.frame ∧ (s.onStore f).pieces = s.pieces ∧
    (s.onStore f).port = s.port ∧ (s.onStore f).now = s.now ∧ (s.onStore f).pending = s.pending :=
  ⟨rfl, rfl, rfl, rfl, rfl, rfl, rfl, rfl, rfl, rfl, rfl, rfl, rfl, rfl, rfl⟩

@[simp] theorem State.onChanges_fields (s : State) (f : ChangeSets → ChangeSets) :
    (s.onChanges f).shaft = s.shaft ∧ (s.onChanges f).bars = s.bars ∧ (s.onChanges f).store = s.store ∧
    (s.onChanges f).changes = f s.changes ∧ (s.onChanges f).profiles = s.profiles ∧ (s.onChanges f).plan = s.plan ∧
    (s.onChanges f).speedLine = s.speedLine ∧ (s.onChanges f).moves = s.moves ∧ (s.onChanges f).ring = s.ring ∧
    (s.onChanges f).alerts = s.alerts ∧ (s.onChanges f).frame = s.frame ∧ (s.onChanges f).pieces = s.pieces ∧
    (s.onChanges f).port = s.port ∧ (s.onChanges f).now = s.now ∧ (s.onChanges f).pending = s.pending :=
  ⟨rfl, rfl, rfl, rfl, rfl, rfl, rfl, rfl, rfl, rfl, rfl, rfl, rfl, rfl, rfl⟩

@[simp] theorem State.onPlan_fields (s : State) (f : Planner → Planner) :
    (s.onPlan f).shaft = s.shaft ∧ (s.onPlan f).bars = s.bars ∧ (s.onPlan f).store = s.store ∧
    (s.onPlan f).changes = s.changes ∧ (s.onPlan f).profiles = s.profiles ∧ (s.onPlan f).plan = f s.plan ∧
    (s.onPlan f).speedLine = s.speedLine ∧ (s.onPlan f).moves = s.moves ∧ (s.onPlan f).ring = s.ring ∧
    (s.onPlan f).alerts = s.alerts ∧ (s.onPlan f).frame = s.frame ∧ (s.onPlan f).pieces = s.pieces ∧
    (s.onPlan f).port = s.port ∧ (s.onPlan f).now = s.now ∧ (s.onPlan f).pending = s.pending :=
  ⟨rfl, rfl, rfl, rfl, rfl, rfl, rfl, rfl, rfl, rfl, rfl, rfl, rfl, rfl, rfl⟩

@[simp] theorem State.onSpeedLine_fields (s : State) (f : SpeedLine → SpeedLine) :
    (s.onSpeedLine f).shaft = s.shaft ∧ (s.onSpeedLine f).bars = s.bars ∧ (s.onSpeedLine f).store = s.store ∧
    (s.onSpeedLine f).changes = s.changes ∧ (s.onSpeedLine f).profiles = s.profiles ∧
    (s.onSpeedLine f).plan = s.plan ∧ (s.onSpeedLine f).speedLine = f s.speedLine ∧
    (s.onSpeedLine f).moves = s.moves ∧ (s.onSpeedLine f).ring = s.ring ∧ (s.onSpeedLine f).alerts = s.alerts ∧
    (s.onSpeedLine f).frame = s.frame ∧ (s.onSpeedLine f).pieces = s.pieces ∧ (s.onSpeedLine f).port = s.port ∧
    (s.onSpeedLine f).now = s.now ∧ (s.onSpeedLine f).pending = s.pending :=
  ⟨rfl, rfl, rfl, rfl, rfl, rfl, rfl, rfl, rfl, rfl, rfl, rfl, rfl, rfl, rfl⟩

@[simp] theorem State.onMoves_fields (s : State) (f : MoveUnit → MoveUnit) :
    (s.onMoves f).shaft = s.shaft ∧ (s.onMoves f).bars = s.bars ∧ (s.onMoves f).store = s.store ∧
    (s.onMoves f).changes = s.changes ∧ (s.onMoves f).profiles = s.profiles ∧ (s.onMoves f).plan = s.plan ∧
    (s.onMoves f).speedLine = s.speedLine ∧ (s.onMoves f).moves = f s.moves ∧ (s.onMoves f).ring = s.ring ∧
    (s.onMoves f).alerts = s.alerts ∧ (s.onMoves f).frame = s.frame ∧ (s.onMoves f).pieces = s.pieces ∧
    (s.onMoves f).port = s.port ∧ (s.onMoves f).now = s.now ∧ (s.onMoves f).pending = s.pending :=
  ⟨rfl, rfl, rfl, rfl, rfl, rfl, rfl, rfl, rfl, rfl, rfl, rfl, rfl, rfl, rfl⟩

@[simp] theorem State.onRing_fields (s : State) (f : Ring → Ring) :
    (s.onRing f).shaft = s.shaft ∧ (s.onRing f).bars = s.bars ∧ (s.onRing f).store = s.store ∧
    (s.onRing f).changes = s.changes ∧ (s.onRing f).profiles = s.profiles ∧ (s.onRing f).plan = s.plan ∧
    (s.onRing f).speedLine = s.speedLine ∧ (s.onRing f).moves = s.moves ∧ (s.onRing f).ring = f s.ring ∧
    (s.onRing f).alerts = s.alerts ∧ (s.onRing f).frame = s.frame ∧ (s.onRing f).pieces = s.pieces ∧
    (s.onRing f).port = s.port ∧ (s.onRing f).now = s.now ∧ (s.onRing f).pending = s.pending :=
  ⟨rfl, rfl, rfl, rfl, rfl, rfl, rfl, rfl, rfl, rfl, rfl, rfl, rfl, rfl, rfl⟩

@[simp] theorem State.onAlerts_fields (s : State) (f : AlertUnit → AlertUnit) :
    (s.onAlerts f).shaft = s.shaft ∧ (s.onAlerts f).bars = s.bars ∧ (s.onAlerts f).store = s.store ∧
    (s.onAlerts f).changes = s.changes ∧ (s.onAlerts f).profiles = s.profiles ∧ (s.onAlerts f).plan = s.plan ∧
    (s.onAlerts f).speedLine = s.speedLine ∧ (s.onAlerts f).moves = s.moves ∧ (s.onAlerts f).ring = s.ring ∧
    (s.onAlerts f).alerts = f s.alerts ∧ (s.onAlerts f).frame = s.frame ∧ (s.onAlerts f).pieces = s.pieces ∧
    (s.onAlerts f).port = s.port ∧ (s.onAlerts f).now = s.now ∧ (s.onAlerts f).pending = s.pending :=
  ⟨rfl, rfl, rfl, rfl, rfl, rfl, rfl, rfl, rfl, rfl, rfl, rfl, rfl, rfl, rfl⟩

@[simp] theorem State.onPieces_fields (s : State) (f : PieceCounter → PieceCounter) :
    (s.onPieces f).shaft = s.shaft ∧ (s.onPieces f).bars = s.bars ∧ (s.onPieces f).store = s.store ∧
    (s.onPieces f).changes = s.changes ∧ (s.onPieces f).profiles = s.profiles ∧ (s.onPieces f).plan = s.plan ∧
    (s.onPieces f).speedLine = s.speedLine ∧ (s.onPieces f).moves = s.moves ∧ (s.onPieces f).ring = s.ring ∧
    (s.onPieces f).alerts = s.alerts ∧ (s.onPieces f).frame = s.frame ∧ (s.onPieces f).pieces = f s.pieces ∧
    (s.onPieces f).port = s.port ∧ (s.onPieces f).now = s.now ∧ (s.onPieces f).pending = s.pending :=
  ⟨rfl, rfl, rfl, rfl, rfl, rfl, rfl, rfl, rfl, rfl, rfl, rfl, rfl, rfl, rfl⟩

@[simp] theorem State.onPort_fields (s : State) (f : Port → Port) :
    (s.onPort f).shaft = s.shaft ∧ (s.onPort f).bars = s.bars ∧ (s.onPort f).store = s.store ∧
    (s.onPort f).changes = s.changes ∧ (s.onPort f).profiles = s.profiles ∧ (s.onPort f).plan = s.plan ∧
    (s.onPort f).speedLine = s.speedLine ∧ (s.onPort f).moves = s.moves ∧ (s.onPort f).ring = s.ring ∧
    (s.onPort f).alerts = s.alerts ∧ (s.onPort f).frame = s.frame ∧ (s.onPort f).pieces = s.pieces ∧
    (s.onPort f).port = f s.port ∧ (s.onPort f).now = s.now ∧ (s.onPort f).pending = s.pending :=
  ⟨rfl, rfl, rfl, rfl, rfl, rfl, rfl, rfl, rfl, rfl, rfl, rfl, rfl, rfl, rfl⟩

@[simp] theorem State.onBar_fields (s : State) (n : Nat) (f : Bar → Bar) :
    (s.onBar n f).shaft = s.shaft ∧ (s.onBar n f).bars = s.bars.modify n f ∧ (s.onBar n f).store = s.store ∧
    (s.onBar n f).changes = s.changes ∧ (s.onBar n f).profiles = s.profiles ∧ (s.onBar n f).plan = s.plan ∧
    (s.onBar n f).speedLine = s.speedLine ∧ (s.onBar n f).moves = s.moves ∧ (s.onBar n f).ring = s.ring ∧
    (s.onBar n f).alerts = s.alerts ∧ (s.onBar n f).frame = s.frame ∧ (s.onBar n f).pieces = s.pieces ∧
    (s.onBar n f).port = s.port ∧ (s.onBar n f).now = s.now ∧ (s.onBar n f).pending = s.pending :=
  ⟨rfl, rfl, rfl, rfl, rfl, rfl, rfl, rfl, rfl, rfl, rfl, rfl, rfl, rfl, rfl⟩

end Sys2Proof.Machine
end

