-- ==== Sys2Proof/Laws/Frames.lean ====
section
/-! SUPPORT. The frame of every shared operation: the blocks it leaves as they were, one lemma for each operation. -/

namespace Sys2Proof.Machine

@[simp] theorem State.raiseAlert_frame (s : State) (kind : AlertKind) (slot course : Option Nat) :
    (s.raiseAlert kind slot course).shaft = s.shaft ∧ (s.raiseAlert kind slot course).bars = s.bars ∧
    (s.raiseAlert kind slot course).store = s.store ∧ (s.raiseAlert kind slot course).changes = s.changes ∧
    (s.raiseAlert kind slot course).profiles = s.profiles ∧ (s.raiseAlert kind slot course).plan = s.plan ∧
    (s.raiseAlert kind slot course).speedLine = s.speedLine ∧ (s.raiseAlert kind slot course).moves = s.moves ∧
    (s.raiseAlert kind slot course).ring = s.ring ∧ (s.raiseAlert kind slot course).frame = s.frame ∧
    (s.raiseAlert kind slot course).pieces = s.pieces ∧ (s.raiseAlert kind slot course).port = s.port ∧
    (s.raiseAlert kind slot course).now = s.now ∧ (s.raiseAlert kind slot course).pending = s.pending := by simp [State.raiseAlert]

@[simp] theorem State.raiseBar_frame (s : State) (kind : AlertKind) (slot : Nat) :
    (s.raiseBar kind slot).shaft = s.shaft ∧ (s.raiseBar kind slot).bars = s.bars ∧
    (s.raiseBar kind slot).store = s.store ∧ (s.raiseBar kind slot).changes = s.changes ∧
    (s.raiseBar kind slot).profiles = s.profiles ∧ (s.raiseBar kind slot).plan = s.plan ∧
    (s.raiseBar kind slot).speedLine = s.speedLine ∧ (s.raiseBar kind slot).moves = s.moves ∧
    (s.raiseBar kind slot).ring = s.ring ∧ (s.raiseBar kind slot).frame = s.frame ∧
    (s.raiseBar kind slot).pieces = s.pieces ∧ (s.raiseBar kind slot).port = s.port ∧
    (s.raiseBar kind slot).now = s.now ∧ (s.raiseBar kind slot).pending = s.pending := by simp [State.raiseBar]

@[simp] theorem State.raisePart_frame (s : State) (kind : AlertKind) :
    (s.raisePart kind).shaft = s.shaft ∧ (s.raisePart kind).bars = s.bars ∧ (s.raisePart kind).store = s.store ∧
    (s.raisePart kind).changes = s.changes ∧ (s.raisePart kind).profiles = s.profiles ∧
    (s.raisePart kind).plan = s.plan ∧ (s.raisePart kind).speedLine = s.speedLine ∧
    (s.raisePart kind).moves = s.moves ∧ (s.raisePart kind).ring = s.ring ∧ (s.raisePart kind).frame = s.frame ∧
    (s.raisePart kind).pieces = s.pieces ∧ (s.raisePart kind).port = s.port ∧ (s.raisePart kind).now = s.now ∧
    (s.raisePart kind).pending = s.pending := by simp [State.raisePart]

@[simp] theorem State.wantSend_frame (s : State) :
    (s.wantSend).shaft = s.shaft ∧ (s.wantSend).bars = s.bars ∧ (s.wantSend).store = s.store ∧
    (s.wantSend).changes = s.changes ∧ (s.wantSend).profiles = s.profiles ∧ (s.wantSend).plan = s.plan ∧
    (s.wantSend).moves = s.moves ∧ (s.wantSend).ring = s.ring ∧ (s.wantSend).alerts = s.alerts ∧
    (s.wantSend).frame = s.frame ∧ (s.wantSend).pieces = s.pieces ∧ (s.wantSend).port = s.port ∧
    (s.wantSend).now = s.now ∧ (s.wantSend).pending = s.pending := by
  unfold State.wantSend; (repeat' split) <;> simp

@[simp] theorem State.settle_frame (s : State) (sendWanted : Bool) :
    (s.settle sendWanted).shaft = s.shaft ∧ (s.settle sendWanted).bars = s.bars ∧
    (s.settle sendWanted).store = s.store ∧ (s.settle sendWanted).changes = s.changes ∧
    (s.settle sendWanted).profiles = s.profiles ∧ (s.settle sendWanted).moves = s.moves ∧
    (s.settle sendWanted).ring = s.ring ∧ (s.settle sendWanted).alerts = s.alerts ∧
    (s.settle sendWanted).frame = s.frame ∧ (s.settle sendWanted).pieces = s.pieces ∧
    (s.settle sendWanted).port = s.port ∧ (s.settle sendWanted).now = s.now ∧
    (s.settle sendWanted).pending = s.pending := by
  unfold State.settle; (repeat' split) <;> simp

@[simp] theorem State.transmit_frame (s : State) (frame : Byte → List Byte) :
    (s.transmit frame).shaft = s.shaft ∧ (s.transmit frame).bars = s.bars ∧ (s.transmit frame).store = s.store ∧
    (s.transmit frame).changes = s.changes ∧ (s.transmit frame).profiles = s.profiles ∧
    (s.transmit frame).plan = s.plan ∧ (s.transmit frame).speedLine = s.speedLine ∧
    (s.transmit frame).moves = s.moves ∧ (s.transmit frame).alerts = s.alerts ∧ (s.transmit frame).frame = s.frame ∧
    (s.transmit frame).pieces = s.pieces ∧ (s.transmit frame).port = s.port ∧ (s.transmit frame).now = s.now ∧
    (s.transmit frame).pending = s.pending := by
  unfold State.transmit; (repeat' split) <;> simp

@[simp] theorem State.sendMarker_frame (s : State) :
    (s.sendMarker).shaft = s.shaft ∧ (s.sendMarker).bars = s.bars ∧ (s.sendMarker).store = s.store ∧
    (s.sendMarker).changes = s.changes ∧ (s.sendMarker).profiles = s.profiles ∧ (s.sendMarker).plan = s.plan ∧
    (s.sendMarker).speedLine = s.speedLine ∧ (s.sendMarker).moves = s.moves ∧ (s.sendMarker).alerts = s.alerts ∧
    (s.sendMarker).frame = s.frame ∧ (s.sendMarker).pieces = s.pieces ∧ (s.sendMarker).port = s.port ∧
    (s.sendMarker).now = s.now ∧ (s.sendMarker).pending = s.pending := by simp [State.sendMarker]

@[simp] theorem State.handMove_frame (s : State) (address tag : Nat) (counts : Int) (budget : Nat) :
    (s.handMove address tag counts budget).shaft = s.shaft ∧ (s.handMove address tag counts budget).bars = s.bars ∧
    (s.handMove address tag counts budget).store = s.store ∧
    (s.handMove address tag counts budget).changes = s.changes ∧
    (s.handMove address tag counts budget).profiles = s.profiles ∧
    (s.handMove address tag counts budget).plan = s.plan ∧
    (s.handMove address tag counts budget).speedLine = s.speedLine ∧
    (s.handMove address tag counts budget).moves = s.moves ∧
    (s.handMove address tag counts budget).alerts = s.alerts ∧
    (s.handMove address tag counts budget).frame = s.frame ∧
    (s.handMove address tag counts budget).pieces = s.pieces ∧ (s.handMove address tag counts budget).port = s.port ∧
    (s.handMove address tag counts budget).now = s.now ∧ (s.handMove address tag counts budget).pending = s.pending := by simp [State.handMove]

@[simp] theorem State.handBind_frame (s : State) (address slot : Nat) :
    (s.handBind address slot).shaft = s.shaft ∧ (s.handBind address slot).bars = s.bars ∧
    (s.handBind address slot).store = s.store ∧ (s.handBind address slot).changes = s.changes ∧
    (s.handBind address slot).profiles = s.profiles ∧ (s.handBind address slot).plan = s.plan ∧
    (s.handBind address slot).speedLine = s.speedLine ∧ (s.handBind address slot).moves = s.moves ∧
    (s.handBind address slot).alerts = s.alerts ∧ (s.handBind address slot).frame = s.frame ∧
    (s.handBind address slot).pieces = s.pieces ∧ (s.handBind address slot).port = s.port ∧
    (s.handBind address slot).now = s.now ∧ (s.handBind address slot).pending = s.pending := by simp [State.handBind]

@[simp] theorem State.handUnbind_frame (s : State) (address : Nat) :
    (s.handUnbind address).shaft = s.shaft ∧ (s.handUnbind address).bars = s.bars ∧
    (s.handUnbind address).store = s.store ∧ (s.handUnbind address).changes = s.changes ∧
    (s.handUnbind address).profiles = s.profiles ∧ (s.handUnbind address).plan = s.plan ∧
    (s.handUnbind address).speedLine = s.speedLine ∧ (s.handUnbind address).moves = s.moves ∧
    (s.handUnbind address).alerts = s.alerts ∧ (s.handUnbind address).frame = s.frame ∧
    (s.handUnbind address).pieces = s.pieces ∧ (s.handUnbind address).port = s.port ∧
    (s.handUnbind address).now = s.now ∧ (s.handUnbind address).pending = s.pending := by simp [State.handUnbind]

@[simp] theorem State.discardMove_frame (s : State) (slot : Nat) :
    (s.discardMove slot).shaft = s.shaft ∧ (s.discardMove slot).store = s.store ∧
    (s.discardMove slot).changes = s.changes ∧ (s.discardMove slot).profiles = s.profiles ∧
    (s.discardMove slot).plan = s.plan ∧ (s.discardMove slot).speedLine = s.speedLine ∧
    (s.discardMove slot).moves = s.moves ∧ (s.discardMove slot).alerts = s.alerts ∧
    (s.discardMove slot).frame = s.frame ∧ (s.discardMove slot).pieces = s.pieces ∧
    (s.discardMove slot).port = s.port ∧ (s.discardMove slot).now = s.now ∧ (s.discardMove slot).pending = s.pending := by simp [State.discardMove]

@[simp] theorem State.startAttempt_frame (s : State) (slot : Nat) :
    (s.startAttempt slot).shaft = s.shaft ∧ (s.startAttempt slot).bars = s.bars ∧
    (s.startAttempt slot).store = s.store ∧ (s.startAttempt slot).changes = s.changes ∧
    (s.startAttempt slot).profiles = s.profiles ∧ (s.startAttempt slot).plan = s.plan ∧
    (s.startAttempt slot).speedLine = s.speedLine ∧ (s.startAttempt slot).moves = s.moves ∧
    (s.startAttempt slot).alerts = s.alerts ∧ (s.startAttempt slot).frame = s.frame ∧
    (s.startAttempt slot).pieces = s.pieces ∧ (s.startAttempt slot).port = s.port ∧
    (s.startAttempt slot).now = s.now ∧ (s.startAttempt slot).pending = s.pending := by
  unfold State.startAttempt; (repeat' split) <;> simp

@[simp] theorem State.endAttempt_frame (s : State) (slot : Nat) :
    (s.endAttempt slot).shaft = s.shaft ∧ (s.endAttempt slot).bars = s.bars ∧ (s.endAttempt slot).store = s.store ∧
    (s.endAttempt slot).changes = s.changes ∧ (s.endAttempt slot).profiles = s.profiles ∧
    (s.endAttempt slot).plan = s.plan ∧ (s.endAttempt slot).speedLine = s.speedLine ∧
    (s.endAttempt slot).moves = s.moves ∧ (s.endAttempt slot).alerts = s.alerts ∧
    (s.endAttempt slot).frame = s.frame ∧ (s.endAttempt slot).pieces = s.pieces ∧ (s.endAttempt slot).port = s.port ∧
    (s.endAttempt slot).now = s.now ∧ (s.endAttempt slot).pending = s.pending := by simp [State.endAttempt]

@[simp] theorem State.setBarState_frame (s : State) (slot : Nat) (next : BarState) :
    (s.setBarState slot next).shaft = s.shaft ∧ (s.setBarState slot next).store = s.store ∧
    (s.setBarState slot next).changes = s.changes ∧ (s.setBarState slot next).profiles = s.profiles ∧
    (s.setBarState slot next).plan = s.plan ∧ (s.setBarState slot next).speedLine = s.speedLine ∧
    (s.setBarState slot next).moves = s.moves ∧ (s.setBarState slot next).alerts = s.alerts ∧
    (s.setBarState slot next).frame = s.frame ∧ (s.setBarState slot next).pieces = s.pieces ∧
    (s.setBarState slot next).port = s.port ∧ (s.setBarState slot next).now = s.now ∧
    (s.setBarState slot next).pending = s.pending := by
  dsimp only [State.setBarState]; (repeat' split) <;> simp

@[simp] theorem State.faultBar_frame (s : State) (slot : Nat) :
    (s.faultBar slot).shaft = s.shaft ∧ (s.faultBar slot).store = s.store ∧ (s.faultBar slot).changes = s.changes ∧
    (s.faultBar slot).profiles = s.profiles ∧ (s.faultBar slot).plan = s.plan ∧
    (s.faultBar slot).speedLine = s.speedLine ∧ (s.faultBar slot).moves = s.moves ∧
    (s.faultBar slot).alerts = s.alerts ∧ (s.faultBar slot).frame = s.frame ∧ (s.faultBar slot).pieces = s.pieces ∧
    (s.faultBar slot).port = s.port ∧ (s.faultBar slot).now = s.now ∧ (s.faultBar slot).pending = s.pending := by
  unfold State.faultBar; (repeat' split) <;> simp

@[simp] theorem State.passTime_frame (s : State) (micros : Nat) :
    (s.passTime micros).bars = s.bars ∧ (s.passTime micros).store = s.store ∧
    (s.passTime micros).changes = s.changes ∧ (s.passTime micros).profiles = s.profiles ∧
    (s.passTime micros).plan = s.plan ∧ (s.passTime micros).speedLine = s.speedLine ∧
    (s.passTime micros).moves = s.moves ∧ (s.passTime micros).alerts = s.alerts ∧
    (s.passTime micros).frame = s.frame ∧ (s.passTime micros).pieces = s.pieces ∧ (s.passTime micros).port = s.port ∧
    (s.passTime micros).pending = s.pending := by
  unfold State.passTime; (repeat' split) <;> simp

@[simp] theorem State.onRefs_frame (s : State) (n : Nat) (f : Nat → Nat) :
    (s.onRefs n f).shaft = s.shaft ∧ (s.onRefs n f).bars = s.bars ∧ (s.onRefs n f).changes = s.changes ∧
    (s.onRefs n f).profiles = s.profiles ∧ (s.onRefs n f).plan = s.plan ∧ (s.onRefs n f).speedLine = s.speedLine ∧
    (s.onRefs n f).moves = s.moves ∧ (s.onRefs n f).ring = s.ring ∧ (s.onRefs n f).alerts = s.alerts ∧
    (s.onRefs n f).frame = s.frame ∧ (s.onRefs n f).pieces = s.pieces ∧ (s.onRefs n f).port = s.port ∧
    (s.onRefs n f).now = s.now ∧ (s.onRefs n f).pending = s.pending := by simp [State.onRefs]

@[simp] theorem State.gainRef_frame (s : State) (n : Nat) :
    (s.gainRef n).shaft = s.shaft ∧ (s.gainRef n).bars = s.bars ∧ (s.gainRef n).changes = s.changes ∧
    (s.gainRef n).profiles = s.profiles ∧ (s.gainRef n).plan = s.plan ∧ (s.gainRef n).speedLine = s.speedLine ∧
    (s.gainRef n).moves = s.moves ∧ (s.gainRef n).ring = s.ring ∧ (s.gainRef n).alerts = s.alerts ∧
    (s.gainRef n).frame = s.frame ∧ (s.gainRef n).pieces = s.pieces ∧ (s.gainRef n).port = s.port ∧
    (s.gainRef n).now = s.now ∧ (s.gainRef n).pending = s.pending := by simp [State.gainRef]

@[simp] theorem State.dropRef_frame (s : State) (n : Nat) :
    (s.dropRef n).shaft = s.shaft ∧ (s.dropRef n).bars = s.bars ∧ (s.dropRef n).changes = s.changes ∧
    (s.dropRef n).profiles = s.profiles ∧ (s.dropRef n).plan = s.plan ∧ (s.dropRef n).speedLine = s.speedLine ∧
    (s.dropRef n).moves = s.moves ∧ (s.dropRef n).ring = s.ring ∧ (s.dropRef n).alerts = s.alerts ∧
    (s.dropRef n).frame = s.frame ∧ (s.dropRef n).pieces = s.pieces ∧ (s.dropRef n).port = s.port ∧
    (s.dropRef n).now = s.now ∧ (s.dropRef n).pending = s.pending := by simp [State.dropRef]

@[simp] theorem State.recountRefs_frame (s : State) :
    (s.recountRefs).shaft = s.shaft ∧ (s.recountRefs).bars = s.bars ∧ (s.recountRefs).changes = s.changes ∧
    (s.recountRefs).profiles = s.profiles ∧ (s.recountRefs).plan = s.plan ∧ (s.recountRefs).speedLine = s.speedLine ∧
    (s.recountRefs).moves = s.moves ∧ (s.recountRefs).ring = s.ring ∧ (s.recountRefs).alerts = s.alerts ∧
    (s.recountRefs).frame = s.frame ∧ (s.recountRefs).pieces = s.pieces ∧ (s.recountRefs).port = s.port ∧
    (s.recountRefs).now = s.now ∧ (s.recountRefs).pending = s.pending := by simp [State.recountRefs]

@[simp] theorem State.sendMove_frame (s : State) (slot : Nat) (target : Int) (side : Side) (kind : MoveKind) (budget : Nat) :
    (s.sendMove slot target side kind budget).shaft = s.shaft ∧
    (s.sendMove slot target side kind budget).store = s.store ∧
    (s.sendMove slot target side kind budget).changes = s.changes ∧
    (s.sendMove slot target side kind budget).profiles = s.profiles ∧
    (s.sendMove slot target side kind budget).plan = s.plan ∧
    (s.sendMove slot target side kind budget).speedLine = s.speedLine ∧
    (s.sendMove slot target side kind budget).alerts = s.alerts ∧
    (s.sendMove slot target side kind budget).frame = s.frame ∧
    (s.sendMove slot target side kind budget).pieces = s.pieces ∧
    (s.sendMove slot target side kind budget).port = s.port ∧ (s.sendMove slot target side kind budget).now = s.now ∧
    (s.sendMove slot target side kind budget).pending = s.pending := by simp [State.sendMove]

@[simp] theorem State.keepStart_frame (s : State) (slot : Nat) :
    (s.keepStart slot).shaft = s.shaft ∧
    (s.keepStart slot).bars = s.bars ∧
    (s.keepStart slot).store = s.store ∧
    (s.keepStart slot).changes = s.changes ∧
    (s.keepStart slot).profiles = s.profiles ∧
    (s.keepStart slot).plan = s.plan ∧
    (s.keepStart slot).speedLine = s.speedLine ∧
    (s.keepStart slot).moves = { s.moves with starts := s.moves.starts.set slot (some (s.bar slot).startPoint) } ∧
    (s.keepStart slot).ring = s.ring ∧
    (s.keepStart slot).alerts = s.alerts ∧
    (s.keepStart slot).frame = s.frame ∧
    (s.keepStart slot).pieces = s.pieces ∧
    (s.keepStart slot).port = s.port ∧
    (s.keepStart slot).now = s.now ∧
    (s.keepStart slot).pending = s.pending := by simp [State.keepStart]

@[simp] theorem State.commandBar_frame (s : State) (w : Window) (heading : Dir) (angle slot : Nat) :
    (s.commandBar w heading angle slot).shaft = s.shaft ∧ (s.commandBar w heading angle slot).store = s.store ∧
    (s.commandBar w heading angle slot).changes = s.changes ∧
    (s.commandBar w heading angle slot).profiles = s.profiles ∧ (s.commandBar w heading angle slot).plan = s.plan ∧
    (s.commandBar w heading angle slot).speedLine = s.speedLine ∧
    (s.commandBar w heading angle slot).alerts = s.alerts ∧ (s.commandBar w heading angle slot).frame = s.frame ∧
    (s.commandBar w heading angle slot).pieces = s.pieces ∧ (s.commandBar w heading angle slot).port = s.port ∧
    (s.commandBar w heading angle slot).now = s.now ∧ (s.commandBar w heading angle slot).pending = s.pending := by
  unfold State.commandBar; (repeat' split) <;> simp

@[simp] theorem State.commandWindow_frame (s : State) (profile : Nat) (w : Window) (heading : Dir) (angle : Nat) :
    (s.commandWindow profile w heading angle).shaft = s.shaft ∧
    (s.commandWindow profile w heading angle).store = s.store ∧
    (s.commandWindow profile w heading angle).changes = s.changes ∧
    (s.commandWindow profile w heading angle).profiles = s.profiles ∧
    (s.commandWindow profile w heading angle).plan = s.plan ∧
    (s.commandWindow profile w heading angle).speedLine = s.speedLine ∧
    (s.commandWindow profile w heading angle).alerts = s.alerts ∧
    (s.commandWindow profile w heading angle).frame = s.frame ∧
    (s.commandWindow profile w heading angle).pieces = s.pieces ∧
    (s.commandWindow profile w heading angle).port = s.port ∧ (s.commandWindow profile w heading angle).now = s.now ∧
    (s.commandWindow profile w heading angle).pending = s.pending := by
  unfold State.commandWindow
  split
  · refine List.foldlRecOn (motive := fun t : State =>
      t.shaft = s.shaft ∧ t.store = s.store ∧ t.changes = s.changes ∧ t.profiles = s.profiles ∧ t.plan = s.plan ∧ t.speedLine = s.speedLine ∧ t.alerts = s.alerts ∧ t.frame = s.frame ∧ t.pieces = s.pieces ∧ t.port = s.port ∧ t.now = s.now ∧ t.pending = s.pending) _ _ ?_ ?_
    · simp
    · intro t h a _; split <;> simpa using h
  · simp

@[simp] theorem State.commandAtOnce_frame (s : State) (slot : Nat) :
    (s.commandAtOnce slot).shaft = s.shaft ∧ (s.commandAtOnce slot).store = s.store ∧
    (s.commandAtOnce slot).changes = s.changes ∧ (s.commandAtOnce slot).profiles = s.profiles ∧
    (s.commandAtOnce slot).plan = s.plan ∧ (s.commandAtOnce slot).speedLine = s.speedLine ∧
    (s.commandAtOnce slot).alerts = s.alerts ∧ (s.commandAtOnce slot).frame = s.frame ∧
    (s.commandAtOnce slot).pieces = s.pieces ∧ (s.commandAtOnce slot).port = s.port ∧
    (s.commandAtOnce slot).now = s.now ∧ (s.commandAtOnce slot).pending = s.pending := by
  dsimp only [State.commandAtOnce]; (repeat' split) <;> simp

@[simp] theorem State.failCheck_frame (s : State) (slot : Nat) :
    (s.failCheck slot).shaft = s.shaft ∧ (s.failCheck slot).store = s.store ∧
    (s.failCheck slot).changes = s.changes ∧ (s.failCheck slot).profiles = s.profiles ∧
    (s.failCheck slot).plan = s.plan ∧ (s.failCheck slot).speedLine = s.speedLine ∧
    (s.failCheck slot).moves = s.moves ∧ (s.failCheck slot).frame = s.frame ∧ (s.failCheck slot).pieces = s.pieces ∧
    (s.failCheck slot).port = s.port ∧ (s.failCheck slot).now = s.now ∧ (s.failCheck slot).pending = s.pending := by
  unfold State.failCheck; (repeat' split) <;> simp

@[simp] theorem State.checkBar_frame (s : State) (w : Window) (heading : Dir) (slot : Nat) :
    (s.checkBar w heading slot).shaft = s.shaft ∧ (s.checkBar w heading slot).store = s.store ∧
    (s.checkBar w heading slot).changes = s.changes ∧ (s.checkBar w heading slot).profiles = s.profiles ∧
    (s.checkBar w heading slot).plan = s.plan ∧ (s.checkBar w heading slot).speedLine = s.speedLine ∧
    (s.checkBar w heading slot).moves = s.moves ∧ (s.checkBar w heading slot).frame = s.frame ∧
    (s.checkBar w heading slot).pieces = s.pieces ∧ (s.checkBar w heading slot).port = s.port ∧
    (s.checkBar w heading slot).now = s.now ∧ (s.checkBar w heading slot).pending = s.pending := by
  unfold State.checkBar; (repeat' split) <;> simp

@[simp] theorem State.leaveWindow_frame (s : State) (profile : Nat) (w : Window) (heading : Dir) :
    (s.leaveWindow profile w heading).shaft = s.shaft ∧ (s.leaveWindow profile w heading).store = s.store ∧
    (s.leaveWindow profile w heading).changes = s.changes ∧ (s.leaveWindow profile w heading).profiles = s.profiles ∧
    (s.leaveWindow profile w heading).plan = s.plan ∧ (s.leaveWindow profile w heading).speedLine = s.speedLine ∧
    (s.leaveWindow profile w heading).moves = s.moves ∧ (s.leaveWindow profile w heading).frame = s.frame ∧
    (s.leaveWindow profile w heading).pieces = s.pieces ∧ (s.leaveWindow profile w heading).port = s.port ∧
    (s.leaveWindow profile w heading).now = s.now ∧ (s.leaveWindow profile w heading).pending = s.pending := by
  unfold State.leaveWindow
  split
  · refine List.foldlRecOn (motive := fun t : State =>
      t.shaft = s.shaft ∧ t.store = s.store ∧ t.changes = s.changes ∧ t.profiles = s.profiles ∧ t.plan = s.plan ∧ t.speedLine = s.speedLine ∧ t.moves = s.moves ∧ t.frame = s.frame ∧ t.pieces = s.pieces ∧ t.port = s.port ∧ t.now = s.now ∧ t.pending = s.pending) _ _ ?_ ?_
    · simp
    · intro t h a _; split <;> simpa using h
  · simp

@[simp] theorem State.onTracker_frame (s : State) (profile : Nat) (f : Tracker → Tracker) :
    (s.onTracker profile f).shaft = s.shaft ∧ (s.onTracker profile f).bars = s.bars ∧
    (s.onTracker profile f).store = s.store ∧ (s.onTracker profile f).changes = s.changes ∧
    (s.onTracker profile f).profiles = s.profiles ∧ (s.onTracker profile f).plan = s.plan ∧
    (s.onTracker profile f).speedLine = s.speedLine ∧ (s.onTracker profile f).ring = s.ring ∧
    (s.onTracker profile f).alerts = s.alerts ∧ (s.onTracker profile f).frame = s.frame ∧
    (s.onTracker profile f).pieces = s.pieces ∧ (s.onTracker profile f).port = s.port ∧
    (s.onTracker profile f).now = s.now ∧ (s.onTracker profile f).pending = s.pending := by simp [State.onTracker]

@[simp] theorem State.trackTo_frame (s : State) (angle profile : Nat) :
    (s.trackTo angle profile).shaft = s.shaft ∧ (s.trackTo angle profile).store = s.store ∧
    (s.trackTo angle profile).changes = s.changes ∧ (s.trackTo angle profile).profiles = s.profiles ∧
    (s.trackTo angle profile).plan = s.plan ∧ (s.trackTo angle profile).speedLine = s.speedLine ∧
    (s.trackTo angle profile).frame = s.frame ∧ (s.trackTo angle profile).pieces = s.pieces ∧
    (s.trackTo angle profile).port = s.port ∧ (s.trackTo angle profile).now = s.now ∧
    (s.trackTo angle profile).pending = s.pending := by
  dsimp only [State.trackTo]; (repeat' split) <;> simp

@[simp] theorem State.moveAngle_frame (s : State) (angle : Nat) :
    (s.moveAngle angle).shaft = s.shaft ∧ (s.moveAngle angle).store = s.store ∧
    (s.moveAngle angle).changes = s.changes ∧ (s.moveAngle angle).profiles = s.profiles ∧
    (s.moveAngle angle).plan = s.plan ∧ (s.moveAngle angle).speedLine = s.speedLine ∧
    (s.moveAngle angle).frame = s.frame ∧ (s.moveAngle angle).pieces = s.pieces ∧ (s.moveAngle angle).port = s.port ∧
    (s.moveAngle angle).now = s.now ∧ (s.moveAngle angle).pending = s.pending := by
  unfold State.moveAngle
  refine List.foldlRecOn (motive := fun t : State =>
      t.shaft = s.shaft ∧ t.store = s.store ∧ t.changes = s.changes ∧ t.profiles = s.profiles ∧ t.plan = s.plan ∧
      t.speedLine = s.speedLine ∧ t.frame = s.frame ∧ t.pieces = s.pieces ∧ t.port = s.port ∧ t.now = s.now ∧
      t.pending = s.pending) _ _ ?_ ?_
  · simp
  · intro t h a _; simpa using h

@[simp] theorem State.turnTracker_frame (s : State) (d : Dir) (profile : Nat) :
    (s.turnTracker d profile).shaft = s.shaft ∧ (s.turnTracker d profile).store = s.store ∧
    (s.turnTracker d profile).changes = s.changes ∧ (s.turnTracker d profile).profiles = s.profiles ∧
    (s.turnTracker d profile).plan = s.plan ∧ (s.turnTracker d profile).speedLine = s.speedLine ∧
    (s.turnTracker d profile).alerts = s.alerts ∧ (s.turnTracker d profile).frame = s.frame ∧
    (s.turnTracker d profile).pieces = s.pieces ∧ (s.turnTracker d profile).port = s.port ∧
    (s.turnTracker d profile).now = s.now ∧ (s.turnTracker d profile).pending = s.pending := by
  dsimp only [State.turnTracker]; (repeat' split) <;> simp

@[simp] theorem State.turnHeading_frame (s : State) (d : Dir) :
    (s.turnHeading d).shaft = s.shaft ∧ (s.turnHeading d).store = s.store ∧ (s.turnHeading d).changes = s.changes ∧
    (s.turnHeading d).profiles = s.profiles ∧ (s.turnHeading d).plan = s.plan ∧
    (s.turnHeading d).speedLine = s.speedLine ∧ (s.turnHeading d).alerts = s.alerts ∧
    (s.turnHeading d).frame = s.frame ∧ (s.turnHeading d).pieces = s.pieces ∧ (s.turnHeading d).port = s.port ∧
    (s.turnHeading d).now = s.now ∧ (s.turnHeading d).pending = s.pending := by
  unfold State.turnHeading
  refine List.foldlRecOn (motive := fun t : State =>
      t.shaft = s.shaft ∧ t.store = s.store ∧ t.changes = s.changes ∧ t.profiles = s.profiles ∧ t.plan = s.plan ∧
      t.speedLine = s.speedLine ∧ t.alerts = s.alerts ∧ t.frame = s.frame ∧ t.pieces = s.pieces ∧ t.port = s.port ∧
      t.now = s.now ∧ t.pending = s.pending) _ _ ?_ ?_
  · simp
  · intro t h a _; simpa using h

@[simp] theorem State.sweep_frame (s : State) (d : Dir) (angleBefore : Nat) :
    (s.sweep d angleBefore).shaft = s.shaft ∧ (s.sweep d angleBefore).store = s.store ∧
    (s.sweep d angleBefore).changes = s.changes ∧ (s.sweep d angleBefore).profiles = s.profiles ∧
    (s.sweep d angleBefore).plan = s.plan ∧ (s.sweep d angleBefore).speedLine = s.speedLine ∧
    (s.sweep d angleBefore).frame = s.frame ∧ (s.sweep d angleBefore).pieces = s.pieces ∧
    (s.sweep d angleBefore).port = s.port ∧ (s.sweep d angleBefore).now = s.now ∧
    (s.sweep d angleBefore).pending = s.pending := by
  unfold State.sweep
  refine List.foldlRecOn (motive := fun t : State =>
      t.shaft = s.shaft ∧ t.store = s.store ∧ t.changes = s.changes ∧ t.profiles = s.profiles ∧ t.plan = s.plan ∧
      t.speedLine = s.speedLine ∧ t.frame = s.frame ∧ t.pieces = s.pieces ∧ t.port = s.port ∧ t.now = s.now ∧
      t.pending = s.pending) _ _ ?_ ?_
  · simp
  · intro t h a _; simpa using h

@[simp] theorem State.placeTrackers_frame (s : State) :
    (s.placeTrackers).shaft = s.shaft ∧ (s.placeTrackers).bars = s.bars ∧ (s.placeTrackers).store = s.store ∧
    (s.placeTrackers).changes = s.changes ∧ (s.placeTrackers).profiles = s.profiles ∧
    (s.placeTrackers).plan = s.plan ∧ (s.placeTrackers).speedLine = s.speedLine ∧ (s.placeTrackers).ring = s.ring ∧
    (s.placeTrackers).alerts = s.alerts ∧ (s.placeTrackers).frame = s.frame ∧ (s.placeTrackers).pieces = s.pieces ∧
    (s.placeTrackers).port = s.port ∧ (s.placeTrackers).now = s.now ∧ (s.placeTrackers).pending = s.pending := by
  unfold State.placeTrackers
  refine List.foldlRecOn (motive := fun t : State =>
      t.shaft = s.shaft ∧ t.bars = s.bars ∧ t.store = s.store ∧ t.changes = s.changes ∧ t.profiles = s.profiles ∧
      t.plan = s.plan ∧ t.speedLine = s.speedLine ∧ t.ring = s.ring ∧ t.alerts = s.alerts ∧ t.frame = s.frame ∧
      t.pieces = s.pieces ∧ t.port = s.port ∧ t.now = s.now ∧ t.pending = s.pending) _ _ ?_ ?_
  · simp
  · intro t h a _; simpa using h

@[simp] theorem State.commandChanged_frame (s before : State) (slot : Nat) :
    (s.commandChanged before slot).shaft = s.shaft ∧ (s.commandChanged before slot).store = s.store ∧
    (s.commandChanged before slot).changes = s.changes ∧ (s.commandChanged before slot).profiles = s.profiles ∧
    (s.commandChanged before slot).plan = s.plan ∧ (s.commandChanged before slot).speedLine = s.speedLine ∧
    (s.commandChanged before slot).alerts = s.alerts ∧ (s.commandChanged before slot).frame = s.frame ∧
    (s.commandChanged before slot).pieces = s.pieces ∧ (s.commandChanged before slot).port = s.port ∧
    (s.commandChanged before slot).now = s.now ∧ (s.commandChanged before slot).pending = s.pending := by
  dsimp only [State.commandChanged]; (repeat' split) <;> simp

@[simp] theorem State.handRecord_frame (s : State) (r : CourseRecord) :
    (s.handRecord r).shaft = s.shaft ∧ (s.handRecord r).store = s.store ∧ (s.handRecord r).changes = s.changes ∧
    (s.handRecord r).profiles = s.profiles ∧ (s.handRecord r).plan = s.plan ∧
    (s.handRecord r).speedLine = s.speedLine ∧ (s.handRecord r).alerts = s.alerts ∧
    (s.handRecord r).frame = s.frame ∧ (s.handRecord r).pieces = s.pieces ∧ (s.handRecord r).port = s.port ∧
    (s.handRecord r).now = s.now ∧ (s.handRecord r).pending = s.pending := by
  unfold State.handRecord
  split
  · refine List.foldlRecOn (motive := fun t : State =>
      t.shaft = s.shaft ∧ t.store = s.store ∧ t.changes = s.changes ∧ t.profiles = s.profiles ∧ t.plan = s.plan ∧ t.speedLine = s.speedLine ∧ t.alerts = s.alerts ∧ t.frame = s.frame ∧ t.pieces = s.pieces ∧ t.port = s.port ∧ t.now = s.now ∧ t.pending = s.pending) _ _ ?_ ?_
    · simp
    · intro t h a _; simpa using h
  · simp

@[simp] theorem State.adoptNext_frame (s : State) :
    (s.adoptNext).shaft = s.shaft ∧ (s.adoptNext).bars = s.bars ∧ (s.adoptNext).store = s.store ∧
    (s.adoptNext).changes = s.changes ∧ (s.adoptNext).profiles = s.profiles ∧ (s.adoptNext).plan = s.plan ∧
    (s.adoptNext).speedLine = s.speedLine ∧ (s.adoptNext).ring = s.ring ∧ (s.adoptNext).alerts = s.alerts ∧
    (s.adoptNext).frame = s.frame ∧ (s.adoptNext).pieces = s.pieces ∧ (s.adoptNext).port = s.port ∧
    (s.adoptNext).now = s.now ∧ (s.adoptNext).pending = s.pending := by
  unfold State.adoptNext; (repeat' split) <;> simp

@[simp] theorem State.raiseBlocked_frame (s : State) (r : CourseRecord) :
    (s.raiseBlocked r).shaft = s.shaft ∧ (s.raiseBlocked r).bars = s.bars ∧ (s.raiseBlocked r).store = s.store ∧
    (s.raiseBlocked r).changes = s.changes ∧ (s.raiseBlocked r).profiles = s.profiles ∧
    (s.raiseBlocked r).plan = s.plan ∧ (s.raiseBlocked r).speedLine = s.speedLine ∧
    (s.raiseBlocked r).moves = s.moves ∧ (s.raiseBlocked r).ring = s.ring ∧ (s.raiseBlocked r).frame = s.frame ∧
    (s.raiseBlocked r).pieces = s.pieces ∧ (s.raiseBlocked r).port = s.port ∧ (s.raiseBlocked r).now = s.now ∧
    (s.raiseBlocked r).pending = s.pending := by
  unfold State.raiseBlocked; (repeat' split) <;> simp

@[simp] theorem State.raiseBlockedEntry_frame (s : State) :
    (s.raiseBlockedEntry).shaft = s.shaft ∧ (s.raiseBlockedEntry).bars = s.bars ∧
    (s.raiseBlockedEntry).store = s.store ∧ (s.raiseBlockedEntry).changes = s.changes ∧
    (s.raiseBlockedEntry).profiles = s.profiles ∧ (s.raiseBlockedEntry).plan = s.plan ∧
    (s.raiseBlockedEntry).speedLine = s.speedLine ∧ (s.raiseBlockedEntry).moves = s.moves ∧
    (s.raiseBlockedEntry).ring = s.ring ∧ (s.raiseBlockedEntry).frame = s.frame ∧
    (s.raiseBlockedEntry).pieces = s.pieces ∧ (s.raiseBlockedEntry).port = s.port ∧
    (s.raiseBlockedEntry).now = s.now ∧ (s.raiseBlockedEntry).pending = s.pending := by
  unfold State.raiseBlockedEntry; (repeat' split) <;> simp

@[simp] theorem State.setCurrent_frame (s : State) (r : CourseRecord) :
    (s.setCurrent r).shaft = s.shaft ∧ (s.setCurrent r).store = s.store ∧ (s.setCurrent r).changes = s.changes ∧
    (s.setCurrent r).profiles = s.profiles ∧ (s.setCurrent r).speedLine = s.speedLine ∧
    (s.setCurrent r).alerts = s.alerts ∧ (s.setCurrent r).frame = s.frame ∧ (s.setCurrent r).pieces = s.pieces ∧
    (s.setCurrent r).port = s.port ∧ (s.setCurrent r).now = s.now ∧ (s.setCurrent r).pending = s.pending := by simp [State.setCurrent]

@[simp] theorem State.buildCurrent_frame (s : State) :
    (s.buildCurrent).shaft = s.shaft ∧ (s.buildCurrent).store = s.store ∧ (s.buildCurrent).changes = s.changes ∧
    (s.buildCurrent).profiles = s.profiles ∧ (s.buildCurrent).speedLine = s.speedLine ∧
    (s.buildCurrent).frame = s.frame ∧ (s.buildCurrent).pieces = s.pieces ∧ (s.buildCurrent).port = s.port ∧
    (s.buildCurrent).now = s.now ∧ (s.buildCurrent).pending = s.pending := by simp [State.buildCurrent]

@[simp] theorem State.copyFromKnit_frame (s : State) :
    (s.copyFromKnit).shaft = s.shaft ∧ (s.copyFromKnit).bars = s.bars ∧ (s.copyFromKnit).store = s.store ∧
    (s.copyFromKnit).changes = s.changes ∧ (s.copyFromKnit).profiles = s.profiles ∧
    (s.copyFromKnit).speedLine = s.speedLine ∧ (s.copyFromKnit).moves = s.moves ∧ (s.copyFromKnit).ring = s.ring ∧
    (s.copyFromKnit).alerts = s.alerts ∧ (s.copyFromKnit).frame = s.frame ∧ (s.copyFromKnit).pieces = s.pieces ∧
    (s.copyFromKnit).port = s.port ∧ (s.copyFromKnit).now = s.now ∧ (s.copyFromKnit).pending = s.pending := by simp [State.copyFromKnit]

@[simp] theorem State.emptyPlan_frame (s : State) :
    (s.emptyPlan).shaft = s.shaft ∧ (s.emptyPlan).bars = s.bars ∧ (s.emptyPlan).store = s.store ∧
    (s.emptyPlan).changes = s.changes ∧ (s.emptyPlan).profiles = s.profiles ∧ (s.emptyPlan).speedLine = s.speedLine ∧
    (s.emptyPlan).moves = s.moves ∧ (s.emptyPlan).ring = s.ring ∧ (s.emptyPlan).alerts = s.alerts ∧
    (s.emptyPlan).frame = s.frame ∧ (s.emptyPlan).pieces = s.pieces ∧ (s.emptyPlan).port = s.port ∧
    (s.emptyPlan).now = s.now ∧ (s.emptyPlan).pending = s.pending := by simp [State.emptyPlan]

@[simp] theorem State.beginPlanning_frame (s : State) :
    (s.beginPlanning).shaft = s.shaft ∧ (s.beginPlanning).bars = s.bars ∧ (s.beginPlanning).store = s.store ∧
    (s.beginPlanning).changes = s.changes ∧ (s.beginPlanning).profiles = s.profiles ∧
    (s.beginPlanning).speedLine = s.speedLine ∧ (s.beginPlanning).moves = s.moves ∧ (s.beginPlanning).ring = s.ring ∧
    (s.beginPlanning).alerts = s.alerts ∧ (s.beginPlanning).frame = s.frame ∧ (s.beginPlanning).pieces = s.pieces ∧
    (s.beginPlanning).port = s.port ∧ (s.beginPlanning).now = s.now ∧ (s.beginPlanning).pending = s.pending := by
  unfold State.beginPlanning; (repeat' split) <;> simp

@[simp] theorem State.endPlanning_frame (s : State) :
    (s.endPlanning).shaft = s.shaft ∧ (s.endPlanning).bars = s.bars ∧ (s.endPlanning).store = s.store ∧
    (s.endPlanning).changes = s.changes ∧ (s.endPlanning).profiles = s.profiles ∧
    (s.endPlanning).speedLine = s.speedLine ∧ (s.endPlanning).moves = s.moves ∧ (s.endPlanning).ring = s.ring ∧
    (s.endPlanning).frame = s.frame ∧ (s.endPlanning).pieces = s.pieces ∧ (s.endPlanning).port = s.port ∧
    (s.endPlanning).now = s.now ∧ (s.endPlanning).pending = s.pending := by simp [State.endPlanning]

@[simp] theorem State.replan_frame (s : State) :
    (s.replan).shaft = s.shaft ∧ (s.replan).store = s.store ∧ (s.replan).changes = s.changes ∧
    (s.replan).profiles = s.profiles ∧ (s.replan).speedLine = s.speedLine ∧ (s.replan).frame = s.frame ∧
    (s.replan).pieces = s.pieces ∧ (s.replan).port = s.port ∧ (s.replan).now = s.now ∧ (s.replan).pending = s.pending := by simp [State.replan]

@[simp] theorem State.enterReverse_frame (s : State) :
    (s.enterReverse).shaft = s.shaft ∧ (s.enterReverse).bars = s.bars ∧ (s.enterReverse).store = s.store ∧
    (s.enterReverse).changes = s.changes ∧ (s.enterReverse).profiles = s.profiles ∧
    (s.enterReverse).speedLine = s.speedLine ∧ (s.enterReverse).moves = s.moves ∧ (s.enterReverse).ring = s.ring ∧
    (s.enterReverse).alerts = s.alerts ∧ (s.enterReverse).frame = s.frame ∧ (s.enterReverse).pieces = s.pieces ∧
    (s.enterReverse).port = s.port ∧ (s.enterReverse).now = s.now ∧ (s.enterReverse).pending = s.pending := by simp [State.enterReverse]

@[simp] theorem State.leaveReverse_frame (s : State) :
    (s.leaveReverse).shaft = s.shaft ∧ (s.leaveReverse).bars = s.bars ∧ (s.leaveReverse).store = s.store ∧
    (s.leaveReverse).changes = s.changes ∧ (s.leaveReverse).profiles = s.profiles ∧
    (s.leaveReverse).speedLine = s.speedLine ∧ (s.leaveReverse).moves = s.moves ∧ (s.leaveReverse).ring = s.ring ∧
    (s.leaveReverse).alerts = s.alerts ∧ (s.leaveReverse).frame = s.frame ∧ (s.leaveReverse).pieces = s.pieces ∧
    (s.leaveReverse).port = s.port ∧ (s.leaveReverse).now = s.now ∧ (s.leaveReverse).pending = s.pending := by simp [State.leaveReverse]

@[simp] theorem State.starve_frame (s : State) (periodValid : Bool) :
    (s.starve periodValid).shaft = s.shaft ∧ (s.starve periodValid).store = s.store ∧
    (s.starve periodValid).changes = s.changes ∧ (s.starve periodValid).profiles = s.profiles ∧
    (s.starve periodValid).speedLine = s.speedLine ∧ (s.starve periodValid).frame = s.frame ∧
    (s.starve periodValid).pieces = s.pieces ∧ (s.starve periodValid).port = s.port ∧
    (s.starve periodValid).now = s.now ∧ (s.starve periodValid).pending = s.pending := by
  unfold State.starve; (repeat' split) <;> simp

@[simp] theorem State.takeHead_frame (s : State) (periodValid : Bool) :
    (s.takeHead periodValid).shaft = s.shaft ∧ (s.takeHead periodValid).store = s.store ∧
    (s.takeHead periodValid).changes = s.changes ∧ (s.takeHead periodValid).profiles = s.profiles ∧
    (s.takeHead periodValid).speedLine = s.speedLine ∧ (s.takeHead periodValid).frame = s.frame ∧
    (s.takeHead periodValid).pieces = s.pieces ∧ (s.takeHead periodValid).port = s.port ∧
    (s.takeHead periodValid).now = s.now ∧ (s.takeHead periodValid).pending = s.pending := by
  unfold State.takeHead; (repeat' split) <;> simp

@[simp] theorem State.checkOverspeed_frame (s : State) (periodValid : Bool) :
    (s.checkOverspeed periodValid).shaft = s.shaft ∧ (s.checkOverspeed periodValid).bars = s.bars ∧
    (s.checkOverspeed periodValid).store = s.store ∧ (s.checkOverspeed periodValid).changes = s.changes ∧
    (s.checkOverspeed periodValid).profiles = s.profiles ∧ (s.checkOverspeed periodValid).plan = s.plan ∧
    (s.checkOverspeed periodValid).speedLine = s.speedLine ∧ (s.checkOverspeed periodValid).moves = s.moves ∧
    (s.checkOverspeed periodValid).ring = s.ring ∧ (s.checkOverspeed periodValid).frame = s.frame ∧
    (s.checkOverspeed periodValid).pieces = s.pieces ∧ (s.checkOverspeed periodValid).port = s.port ∧
    (s.checkOverspeed periodValid).now = s.now ∧ (s.checkOverspeed periodValid).pending = s.pending := by
  unfold State.checkOverspeed; (repeat' split) <;> simp

@[simp] theorem State.discardMoves_frame (s : State) :
    (s.discardMoves).shaft = s.shaft ∧ (s.discardMoves).store = s.store ∧ (s.discardMoves).changes = s.changes ∧
    (s.discardMoves).profiles = s.profiles ∧ (s.discardMoves).plan = s.plan ∧
    (s.discardMoves).speedLine = s.speedLine ∧ (s.discardMoves).moves = s.moves ∧ (s.discardMoves).ring = s.ring ∧
    (s.discardMoves).alerts = s.alerts ∧ (s.discardMoves).frame = s.frame ∧ (s.discardMoves).pieces = s.pieces ∧
    (s.discardMoves).port = s.port ∧ (s.discardMoves).now = s.now ∧ (s.discardMoves).pending = s.pending := by simp [State.discardMoves]

@[simp] theorem State.unlinkBars_frame (s : State) :
    (s.unlinkBars).shaft = s.shaft ∧ (s.unlinkBars).store = s.store ∧ (s.unlinkBars).changes = s.changes ∧
    (s.unlinkBars).profiles = s.profiles ∧ (s.unlinkBars).plan = s.plan ∧ (s.unlinkBars).speedLine = s.speedLine ∧
    (s.unlinkBars).moves = s.moves ∧ (s.unlinkBars).alerts = s.alerts ∧ (s.unlinkBars).frame = s.frame ∧
    (s.unlinkBars).pieces = s.pieces ∧ (s.unlinkBars).port = s.port ∧ (s.unlinkBars).now = s.now ∧
    (s.unlinkBars).pending = s.pending := by
  unfold State.unlinkBars
  refine List.foldlRecOn (motive := fun t : State =>
      t.shaft = s.shaft ∧ t.store = s.store ∧ t.changes = s.changes ∧ t.profiles = s.profiles ∧ t.plan = s.plan ∧
      t.speedLine = s.speedLine ∧ t.moves = s.moves ∧ t.alerts = s.alerts ∧ t.frame = s.frame ∧ t.pieces = s.pieces ∧
      t.port = s.port ∧ t.now = s.now ∧ t.pending = s.pending) _ _ ?_ ?_
  · simp
  · intro t h a _; simpa using h

@[simp] theorem State.ringLeavesUp_frame (s : State) :
    (s.ringLeavesUp).shaft = s.shaft ∧ (s.ringLeavesUp).store = s.store ∧ (s.ringLeavesUp).changes = s.changes ∧
    (s.ringLeavesUp).profiles = s.profiles ∧ (s.ringLeavesUp).plan = s.plan ∧
    (s.ringLeavesUp).speedLine = s.speedLine ∧ (s.ringLeavesUp).moves = s.moves ∧ (s.ringLeavesUp).frame = s.frame ∧
    (s.ringLeavesUp).pieces = s.pieces ∧ (s.ringLeavesUp).port = s.port ∧ (s.ringLeavesUp).now = s.now ∧
    (s.ringLeavesUp).pending = s.pending := by simp [State.ringLeavesUp]

@[simp] theorem State.handBinds_frame (s : State) :
    (s.handBinds).shaft = s.shaft ∧ (s.handBinds).bars = s.bars ∧ (s.handBinds).store = s.store ∧
    (s.handBinds).changes = s.changes ∧ (s.handBinds).profiles = s.profiles ∧ (s.handBinds).plan = s.plan ∧
    (s.handBinds).speedLine = s.speedLine ∧ (s.handBinds).moves = s.moves ∧ (s.handBinds).alerts = s.alerts ∧
    (s.handBinds).frame = s.frame ∧ (s.handBinds).pieces = s.pieces ∧ (s.handBinds).port = s.port ∧
    (s.handBinds).now = s.now ∧ (s.handBinds).pending = s.pending := by
  unfold State.handBinds
  refine List.foldlRecOn (motive := fun t : State =>
      t.shaft = s.shaft ∧ t.bars = s.bars ∧ t.store = s.store ∧ t.changes = s.changes ∧ t.profiles = s.profiles ∧
      t.plan = s.plan ∧ t.speedLine = s.speedLine ∧ t.moves = s.moves ∧ t.alerts = s.alerts ∧ t.frame = s.frame ∧
      t.pieces = s.pieces ∧ t.port = s.port ∧ t.now = s.now ∧ t.pending = s.pending) _ _ ?_ ?_
  · simp
  · intro t h a _; split <;> simpa using h

@[simp] theorem State.ringEntersUp_frame (s : State) :
    (s.ringEntersUp).shaft = s.shaft ∧ (s.ringEntersUp).bars = s.bars ∧ (s.ringEntersUp).store = s.store ∧
    (s.ringEntersUp).changes = s.changes ∧ (s.ringEntersUp).profiles = s.profiles ∧ (s.ringEntersUp).plan = s.plan ∧
    (s.ringEntersUp).speedLine = s.speedLine ∧ (s.ringEntersUp).moves = s.moves ∧
    (s.ringEntersUp).alerts = s.alerts ∧ (s.ringEntersUp).frame = s.frame ∧ (s.ringEntersUp).pieces = s.pieces ∧
    (s.ringEntersUp).port = s.port ∧ (s.ringEntersUp).now = s.now ∧ (s.ringEntersUp).pending = s.pending := by simp [State.ringEntersUp]

@[simp] theorem State.ringTrains_frame (s : State) :
    (s.ringTrains).shaft = s.shaft ∧ (s.ringTrains).bars = s.bars ∧ (s.ringTrains).store = s.store ∧
    (s.ringTrains).changes = s.changes ∧ (s.ringTrains).profiles = s.profiles ∧ (s.ringTrains).plan = s.plan ∧
    (s.ringTrains).speedLine = s.speedLine ∧ (s.ringTrains).moves = s.moves ∧ (s.ringTrains).alerts = s.alerts ∧
    (s.ringTrains).frame = s.frame ∧ (s.ringTrains).pieces = s.pieces ∧ (s.ringTrains).port = s.port ∧
    (s.ringTrains).now = s.now ∧ (s.ringTrains).pending = s.pending := by simp [State.ringTrains]

@[simp] theorem State.frameHome_frame (s : State) (bytes : List Byte) :
    (s.frameHome bytes).shaft = s.shaft ∧ (s.frameHome bytes).bars = s.bars ∧ (s.frameHome bytes).store = s.store ∧
    (s.frameHome bytes).changes = s.changes ∧ (s.frameHome bytes).profiles = s.profiles ∧
    (s.frameHome bytes).plan = s.plan ∧ (s.frameHome bytes).speedLine = s.speedLine ∧
    (s.frameHome bytes).moves = s.moves ∧ (s.frameHome bytes).alerts = s.alerts ∧
    (s.frameHome bytes).frame = s.frame ∧ (s.frameHome bytes).pieces = s.pieces ∧ (s.frameHome bytes).port = s.port ∧
    (s.frameHome bytes).now = s.now ∧ (s.frameHome bytes).pending = s.pending := by
  dsimp only [State.frameHome]; (repeat' split) <;> simp

@[simp] theorem State.takeBindAck_frame (s : State) (slot carried : Nat) (counts : Int) :
    (s.takeBindAck slot carried counts).shaft = s.shaft ∧ (s.takeBindAck slot carried counts).store = s.store ∧
    (s.takeBindAck slot carried counts).changes = s.changes ∧
    (s.takeBindAck slot carried counts).profiles = s.profiles ∧ (s.takeBindAck slot carried counts).plan = s.plan ∧
    (s.takeBindAck slot carried counts).speedLine = s.speedLine ∧
    (s.takeBindAck slot carried counts).frame = s.frame ∧ (s.takeBindAck slot carried counts).pieces = s.pieces ∧
    (s.takeBindAck slot carried counts).port = s.port ∧ (s.takeBindAck slot carried counts).now = s.now ∧
    (s.takeBindAck slot carried counts).pending = s.pending := by
  unfold State.takeBindAck; (repeat' split) <;> simp

@[simp] theorem State.endMove_frame (s : State) (slot : Nat) (kind : MoveKind) (within : Bool) :
    (s.endMove slot kind within).shaft = s.shaft ∧ (s.endMove slot kind within).store = s.store ∧
    (s.endMove slot kind within).changes = s.changes ∧ (s.endMove slot kind within).profiles = s.profiles ∧
    (s.endMove slot kind within).plan = s.plan ∧ (s.endMove slot kind within).speedLine = s.speedLine ∧
    (s.endMove slot kind within).frame = s.frame ∧ (s.endMove slot kind within).pieces = s.pieces ∧
    (s.endMove slot kind within).port = s.port ∧ (s.endMove slot kind within).now = s.now ∧
    (s.endMove slot kind within).pending = s.pending := by
  unfold State.endMove; (repeat' split) <;> simp

@[simp] theorem State.takeDone_frame (s : State) (slot tag : Nat) (reached : Int) :
    (s.takeDone slot tag reached).shaft = s.shaft ∧ (s.takeDone slot tag reached).store = s.store ∧
    (s.takeDone slot tag reached).changes = s.changes ∧ (s.takeDone slot tag reached).profiles = s.profiles ∧
    (s.takeDone slot tag reached).plan = s.plan ∧ (s.takeDone slot tag reached).speedLine = s.speedLine ∧
    (s.takeDone slot tag reached).frame = s.frame ∧ (s.takeDone slot tag reached).pieces = s.pieces ∧
    (s.takeDone slot tag reached).port = s.port ∧ (s.takeDone slot tag reached).now = s.now ∧
    (s.takeDone slot tag reached).pending = s.pending := by
  unfold State.takeDone; (repeat' split) <;> simp

@[simp] theorem State.takeFault_frame (s : State) (slot code : Nat) :
    (s.takeFault slot code).shaft = s.shaft ∧ (s.takeFault slot code).store = s.store ∧
    (s.takeFault slot code).changes = s.changes ∧ (s.takeFault slot code).profiles = s.profiles ∧
    (s.takeFault slot code).plan = s.plan ∧ (s.takeFault slot code).speedLine = s.speedLine ∧
    (s.takeFault slot code).moves = s.moves ∧ (s.takeFault slot code).frame = s.frame ∧
    (s.takeFault slot code).pieces = s.pieces ∧ (s.takeFault slot code).port = s.port ∧
    (s.takeFault slot code).now = s.now ∧ (s.takeFault slot code).pending = s.pending := by simp [State.takeFault]

@[simp] theorem State.ringInput_frame (s : State) (bytes : List Byte) :
    (s.ringInput bytes).shaft = s.shaft ∧ (s.ringInput bytes).store = s.store ∧
    (s.ringInput bytes).changes = s.changes ∧ (s.ringInput bytes).profiles = s.profiles ∧
    (s.ringInput bytes).plan = s.plan ∧ (s.ringInput bytes).speedLine = s.speedLine ∧
    (s.ringInput bytes).frame = s.frame ∧ (s.ringInput bytes).pieces = s.pieces ∧ (s.ringInput bytes).port = s.port ∧
    (s.ringInput bytes).now = s.now ∧ (s.ringInput bytes).pending = s.pending := by
  unfold State.ringInput State.driveFrame; (repeat' split) <;> simp

@[simp] theorem State.countBind_frame (s : State) (q : QueuedFrame) :
    (s.countBind q).shaft = s.shaft ∧ (s.countBind q).bars = s.bars ∧ (s.countBind q).store = s.store ∧
    (s.countBind q).changes = s.changes ∧ (s.countBind q).profiles = s.profiles ∧ (s.countBind q).plan = s.plan ∧
    (s.countBind q).speedLine = s.speedLine ∧ (s.countBind q).moves = s.moves ∧ (s.countBind q).alerts = s.alerts ∧
    (s.countBind q).frame = s.frame ∧ (s.countBind q).pieces = s.pieces ∧ (s.countBind q).port = s.port ∧
    (s.countBind q).now = s.now ∧ (s.countBind q).pending = s.pending := by
  unfold State.countBind; (repeat' split) <;> simp

@[simp] theorem State.sendHead_frame (s : State) :
    (s.sendHead).shaft = s.shaft ∧ (s.sendHead).bars = s.bars ∧ (s.sendHead).store = s.store ∧
    (s.sendHead).changes = s.changes ∧ (s.sendHead).profiles = s.profiles ∧ (s.sendHead).plan = s.plan ∧
    (s.sendHead).speedLine = s.speedLine ∧ (s.sendHead).moves = s.moves ∧ (s.sendHead).alerts = s.alerts ∧
    (s.sendHead).frame = s.frame ∧ (s.sendHead).pieces = s.pieces ∧ (s.sendHead).port = s.port ∧
    (s.sendHead).now = s.now ∧ (s.sendHead).pending = s.pending := by
  unfold State.sendHead; (repeat' split) <;> simp

@[simp] theorem State.loseFrame_frame (s : State) :
    (s.loseFrame).shaft = s.shaft ∧ (s.loseFrame).store = s.store ∧ (s.loseFrame).changes = s.changes ∧
    (s.loseFrame).profiles = s.profiles ∧ (s.loseFrame).plan = s.plan ∧ (s.loseFrame).speedLine = s.speedLine ∧
    (s.loseFrame).moves = s.moves ∧ (s.loseFrame).frame = s.frame ∧ (s.loseFrame).pieces = s.pieces ∧
    (s.loseFrame).port = s.port ∧ (s.loseFrame).now = s.now ∧ (s.loseFrame).pending = s.pending := by
  dsimp only [State.loseFrame]; (repeat' split) <;> simp

@[simp] theorem State.loseMarker_frame (s : State) :
    (s.loseMarker).shaft = s.shaft ∧ (s.loseMarker).bars = s.bars ∧ (s.loseMarker).store = s.store ∧
    (s.loseMarker).changes = s.changes ∧ (s.loseMarker).profiles = s.profiles ∧ (s.loseMarker).plan = s.plan ∧
    (s.loseMarker).speedLine = s.speedLine ∧ (s.loseMarker).moves = s.moves ∧ (s.loseMarker).alerts = s.alerts ∧
    (s.loseMarker).frame = s.frame ∧ (s.loseMarker).pieces = s.pieces ∧ (s.loseMarker).port = s.port ∧
    (s.loseMarker).now = s.now ∧ (s.loseMarker).pending = s.pending := by simp [State.loseMarker]

@[simp] theorem State.retry_frame (s : State) (slot : Nat) (a : Attempt) :
    (s.retry slot a).shaft = s.shaft ∧ (s.retry slot a).bars = s.bars ∧ (s.retry slot a).store = s.store ∧
    (s.retry slot a).changes = s.changes ∧ (s.retry slot a).profiles = s.profiles ∧ (s.retry slot a).plan = s.plan ∧
    (s.retry slot a).speedLine = s.speedLine ∧ (s.retry slot a).moves = s.moves ∧ (s.retry slot a).frame = s.frame ∧
    (s.retry slot a).pieces = s.pieces ∧ (s.retry slot a).port = s.port ∧ (s.retry slot a).now = s.now ∧
    (s.retry slot a).pending = s.pending := by
  dsimp only [State.retry]; (repeat' split) <;> simp

@[simp] theorem State.stallExpires_frame (s : State) :
    (s.stallExpires).bars = s.bars ∧ (s.stallExpires).store = s.store ∧ (s.stallExpires).changes = s.changes ∧
    (s.stallExpires).profiles = s.profiles ∧ (s.stallExpires).moves = s.moves ∧ (s.stallExpires).ring = s.ring ∧
    (s.stallExpires).alerts = s.alerts ∧ (s.stallExpires).frame = s.frame ∧ (s.stallExpires).pieces = s.pieces ∧
    (s.stallExpires).port = s.port ∧ (s.stallExpires).now = s.now ∧ (s.stallExpires).pending = s.pending := by
  unfold State.stallExpires; (repeat' split) <;> simp

@[simp] theorem State.transitExpires_frame (s : State) :
    (s.transitExpires).shaft = s.shaft ∧ (s.transitExpires).store = s.store ∧
    (s.transitExpires).changes = s.changes ∧ (s.transitExpires).profiles = s.profiles ∧
    (s.transitExpires).moves = s.moves ∧ (s.transitExpires).frame = s.frame ∧ (s.transitExpires).pieces = s.pieces ∧
    (s.transitExpires).port = s.port ∧ (s.transitExpires).now = s.now ∧ (s.transitExpires).pending = s.pending := by
  unfold State.transitExpires; (repeat' split) <;> simp

@[simp] theorem State.retryExpires_frame (s : State) (slot : Nat) :
    (s.retryExpires slot).shaft = s.shaft ∧ (s.retryExpires slot).bars = s.bars ∧
    (s.retryExpires slot).store = s.store ∧ (s.retryExpires slot).changes = s.changes ∧
    (s.retryExpires slot).profiles = s.profiles ∧ (s.retryExpires slot).moves = s.moves ∧
    (s.retryExpires slot).frame = s.frame ∧ (s.retryExpires slot).pieces = s.pieces ∧
    (s.retryExpires slot).port = s.port ∧ (s.retryExpires slot).now = s.now ∧
    (s.retryExpires slot).pending = s.pending := by
  unfold State.retryExpires; (repeat' split) <;> simp

@[simp] theorem State.expire_frame (s : State) (k : Timer) :
    (s.expire k).store = s.store ∧ (s.expire k).changes = s.changes ∧ (s.expire k).profiles = s.profiles ∧
    (s.expire k).moves = s.moves ∧ (s.expire k).frame = s.frame ∧ (s.expire k).pieces = s.pieces ∧
    (s.expire k).port = s.port ∧ (s.expire k).now = s.now ∧ (s.expire k).pending = s.pending := by
  cases k <;> simp [State.expire]

@[simp] theorem State.elapse_frame (s : State) (fuel left : Nat) :
    (State.elapse fuel left s).store = s.store ∧ (State.elapse fuel left s).changes = s.changes ∧
    (State.elapse fuel left s).profiles = s.profiles ∧ (State.elapse fuel left s).moves = s.moves ∧
    (State.elapse fuel left s).frame = s.frame ∧ (State.elapse fuel left s).pieces = s.pieces ∧
    (State.elapse fuel left s).port = s.port ∧ (State.elapse fuel left s).pending = s.pending := by
  induction fuel generalizing left s with
  | zero => simp [State.elapse]
  | succ n ih => rw [State.elapse]; (repeat' split) <;> simp [ih]

@[simp] theorem State.passUntil_frame (s : State) (time : Nat) :
    (s.passUntil time).store = s.store ∧ (s.passUntil time).changes = s.changes ∧
    (s.passUntil time).profiles = s.profiles ∧ (s.passUntil time).moves = s.moves ∧
    (s.passUntil time).frame = s.frame ∧ (s.passUntil time).pieces = s.pieces ∧ (s.passUntil time).port = s.port ∧
    (s.passUntil time).pending = s.pending := by
  unfold State.passUntil; (repeat' split) <;> simp

@[simp] theorem State.stepKnit_frame (s : State) (step : Cursor → Cursor) (slot : Nat) :
    (s.stepKnit step slot).shaft = s.shaft ∧ (s.stepKnit step slot).store = s.store ∧
    (s.stepKnit step slot).changes = s.changes ∧ (s.stepKnit step slot).profiles = s.profiles ∧
    (s.stepKnit step slot).plan = s.plan ∧ (s.stepKnit step slot).speedLine = s.speedLine ∧
    (s.stepKnit step slot).moves = s.moves ∧ (s.stepKnit step slot).ring = s.ring ∧
    (s.stepKnit step slot).alerts = s.alerts ∧ (s.stepKnit step slot).frame = s.frame ∧
    (s.stepKnit step slot).pieces = s.pieces ∧ (s.stepKnit step slot).port = s.port ∧
    (s.stepKnit step slot).now = s.now ∧ (s.stepKnit step slot).pending = s.pending := by simp [State.stepKnit]

@[simp] theorem State.stepKnitForward_frame (s : State) :
    (s.stepKnitForward).shaft = s.shaft ∧ (s.stepKnitForward).store = s.store ∧
    (s.stepKnitForward).changes = s.changes ∧ (s.stepKnitForward).profiles = s.profiles ∧
    (s.stepKnitForward).plan = s.plan ∧ (s.stepKnitForward).speedLine = s.speedLine ∧
    (s.stepKnitForward).moves = s.moves ∧ (s.stepKnitForward).ring = s.ring ∧ (s.stepKnitForward).alerts = s.alerts ∧
    (s.stepKnitForward).frame = s.frame ∧ (s.stepKnitForward).pieces = s.pieces ∧ (s.stepKnitForward).port = s.port ∧
    (s.stepKnitForward).now = s.now ∧ (s.stepKnitForward).pending = s.pending := by
  unfold State.stepKnitForward
  refine List.foldlRecOn (motive := fun t : State =>
      t.shaft = s.shaft ∧ t.store = s.store ∧ t.changes = s.changes ∧ t.profiles = s.profiles ∧ t.plan = s.plan ∧
      t.speedLine = s.speedLine ∧ t.moves = s.moves ∧ t.ring = s.ring ∧ t.alerts = s.alerts ∧ t.frame = s.frame ∧
      t.pieces = s.pieces ∧ t.port = s.port ∧ t.now = s.now ∧ t.pending = s.pending) _ _ ?_ ?_
  · simp
  · intro t h a _; split <;> simpa using h

@[simp] theorem State.stepKnitReverse_frame (s : State) :
    (s.stepKnitReverse).shaft = s.shaft ∧ (s.stepKnitReverse).store = s.store ∧
    (s.stepKnitReverse).changes = s.changes ∧ (s.stepKnitReverse).profiles = s.profiles ∧
    (s.stepKnitReverse).plan = s.plan ∧ (s.stepKnitReverse).speedLine = s.speedLine ∧
    (s.stepKnitReverse).moves = s.moves ∧ (s.stepKnitReverse).ring = s.ring ∧ (s.stepKnitReverse).alerts = s.alerts ∧
    (s.stepKnitReverse).frame = s.frame ∧ (s.stepKnitReverse).pieces = s.pieces ∧ (s.stepKnitReverse).port = s.port ∧
    (s.stepKnitReverse).now = s.now ∧ (s.stepKnitReverse).pending = s.pending := by
  unfold State.stepKnitReverse
  refine List.foldlRecOn (motive := fun t : State =>
      t.shaft = s.shaft ∧ t.store = s.store ∧ t.changes = s.changes ∧ t.profiles = s.profiles ∧ t.plan = s.plan ∧
      t.speedLine = s.speedLine ∧ t.moves = s.moves ∧ t.ring = s.ring ∧ t.alerts = s.alerts ∧ t.frame = s.frame ∧
      t.pieces = s.pieces ∧ t.port = s.port ∧ t.now = s.now ∧ t.pending = s.pending) _ _ ?_ ?_
  · simp
  · intro t h a _; simpa using h

@[simp] theorem State.rebind_frame (s : State) (slot : Nat) :
    (s.rebind slot).shaft = s.shaft ∧ (s.rebind slot).store = s.store ∧ (s.rebind slot).changes = s.changes ∧
    (s.rebind slot).profiles = s.profiles ∧ (s.rebind slot).plan = s.plan ∧ (s.rebind slot).speedLine = s.speedLine ∧
    (s.rebind slot).moves = s.moves ∧ (s.rebind slot).alerts = s.alerts ∧ (s.rebind slot).frame = s.frame ∧
    (s.rebind slot).pieces = s.pieces ∧ (s.rebind slot).port = s.port ∧ (s.rebind slot).now = s.now ∧
    (s.rebind slot).pending = s.pending := by simp [State.rebind]

@[simp] theorem State.profileChanged_frame (s : State) (slot : Nat) :
    (s.profileChanged slot).shaft = s.shaft ∧ (s.profileChanged slot).store = s.store ∧
    (s.profileChanged slot).changes = s.changes ∧ (s.profileChanged slot).profiles = s.profiles ∧
    (s.profileChanged slot).plan = s.plan ∧ (s.profileChanged slot).speedLine = s.speedLine ∧
    (s.profileChanged slot).moves = s.moves ∧ (s.profileChanged slot).alerts = s.alerts ∧
    (s.profileChanged slot).frame = s.frame ∧ (s.profileChanged slot).pieces = s.pieces ∧
    (s.profileChanged slot).port = s.port ∧ (s.profileChanged slot).now = s.now ∧
    (s.profileChanged slot).pending = s.pending := by
  unfold State.profileChanged; (repeat' split) <;> simp

@[simp] theorem State.moveRefs_frame (s : State) (before after : Assignment) :
    (s.moveRefs before after).shaft = s.shaft ∧ (s.moveRefs before after).bars = s.bars ∧
    (s.moveRefs before after).changes = s.changes ∧ (s.moveRefs before after).profiles = s.profiles ∧
    (s.moveRefs before after).plan = s.plan ∧ (s.moveRefs before after).speedLine = s.speedLine ∧
    (s.moveRefs before after).moves = s.moves ∧ (s.moveRefs before after).ring = s.ring ∧
    (s.moveRefs before after).alerts = s.alerts ∧ (s.moveRefs before after).frame = s.frame ∧
    (s.moveRefs before after).pieces = s.pieces ∧ (s.moveRefs before after).port = s.port ∧
    (s.moveRefs before after).now = s.now ∧ (s.moveRefs before after).pending = s.pending := by
  unfold State.moveRefs; (repeat' split) <;> simp

@[simp] theorem State.applyEdit_frame (s : State) (slot : Nat) (e : Edit) :
    (s.applyEdit slot e).shaft = s.shaft ∧ (s.applyEdit slot e).changes = s.changes ∧
    (s.applyEdit slot e).profiles = s.profiles ∧ (s.applyEdit slot e).plan = s.plan ∧
    (s.applyEdit slot e).speedLine = s.speedLine ∧ (s.applyEdit slot e).moves = s.moves ∧
    (s.applyEdit slot e).alerts = s.alerts ∧ (s.applyEdit slot e).frame = s.frame ∧
    (s.applyEdit slot e).pieces = s.pieces ∧ (s.applyEdit slot e).port = s.port ∧ (s.applyEdit slot e).now = s.now ∧
    (s.applyEdit slot e).pending = s.pending := by simp [State.applyEdit]

@[simp] theorem State.pin_frame (s : State) (slot : Nat) :
    (s.pin slot).shaft = s.shaft ∧ (s.pin slot).store = s.store ∧ (s.pin slot).changes = s.changes ∧
    (s.pin slot).profiles = s.profiles ∧ (s.pin slot).plan = s.plan ∧ (s.pin slot).speedLine = s.speedLine ∧
    (s.pin slot).moves = s.moves ∧ (s.pin slot).ring = s.ring ∧ (s.pin slot).alerts = s.alerts ∧
    (s.pin slot).frame = s.frame ∧ (s.pin slot).pieces = s.pieces ∧ (s.pin slot).port = s.port ∧
    (s.pin slot).now = s.now ∧ (s.pin slot).pending = s.pending := by simp [State.pin]

@[simp] theorem State.unpin_frame (s : State) (slot : Nat) :
    (s.unpin slot).shaft = s.shaft ∧ (s.unpin slot).store = s.store ∧ (s.unpin slot).changes = s.changes ∧
    (s.unpin slot).profiles = s.profiles ∧ (s.unpin slot).plan = s.plan ∧ (s.unpin slot).speedLine = s.speedLine ∧
    (s.unpin slot).moves = s.moves ∧ (s.unpin slot).ring = s.ring ∧ (s.unpin slot).alerts = s.alerts ∧
    (s.unpin slot).frame = s.frame ∧ (s.unpin slot).pieces = s.pieces ∧ (s.unpin slot).port = s.port ∧
    (s.unpin slot).now = s.now ∧ (s.unpin slot).pending = s.pending := by
  unfold State.unpin; (repeat' split) <;> simp

@[simp] theorem State.gainRefs_frame (s : State) (edits : KMap Edit) :
    (s.gainRefs edits).shaft = s.shaft ∧ (s.gainRefs edits).bars = s.bars ∧ (s.gainRefs edits).changes = s.changes ∧
    (s.gainRefs edits).profiles = s.profiles ∧ (s.gainRefs edits).plan = s.plan ∧
    (s.gainRefs edits).speedLine = s.speedLine ∧ (s.gainRefs edits).moves = s.moves ∧
    (s.gainRefs edits).ring = s.ring ∧ (s.gainRefs edits).alerts = s.alerts ∧ (s.gainRefs edits).frame = s.frame ∧
    (s.gainRefs edits).pieces = s.pieces ∧ (s.gainRefs edits).port = s.port ∧ (s.gainRefs edits).now = s.now ∧
    (s.gainRefs edits).pending = s.pending := by
  unfold State.gainRefs
  refine List.foldlRecOn (motive := fun t : State =>
      t.shaft = s.shaft ∧ t.bars = s.bars ∧ t.changes = s.changes ∧ t.profiles = s.profiles ∧ t.plan = s.plan ∧
      t.speedLine = s.speedLine ∧ t.moves = s.moves ∧ t.ring = s.ring ∧ t.alerts = s.alerts ∧ t.frame = s.frame ∧
      t.pieces = s.pieces ∧ t.port = s.port ∧ t.now = s.now ∧ t.pending = s.pending) _ _ ?_ ?_
  · simp
  · intro t h a _; split <;> simpa using h

@[simp] theorem State.dropRefs_frame (s : State) (edits : KMap Edit) :
    (s.dropRefs edits).shaft = s.shaft ∧ (s.dropRefs edits).bars = s.bars ∧ (s.dropRefs edits).changes = s.changes ∧
    (s.dropRefs edits).profiles = s.profiles ∧ (s.dropRefs edits).plan = s.plan ∧
    (s.dropRefs edits).speedLine = s.speedLine ∧ (s.dropRefs edits).moves = s.moves ∧
    (s.dropRefs edits).ring = s.ring ∧ (s.dropRefs edits).alerts = s.alerts ∧ (s.dropRefs edits).frame = s.frame ∧
    (s.dropRefs edits).pieces = s.pieces ∧ (s.dropRefs edits).port = s.port ∧ (s.dropRefs edits).now = s.now ∧
    (s.dropRefs edits).pending = s.pending := by
  unfold State.dropRefs
  refine List.foldlRecOn (motive := fun t : State =>
      t.shaft = s.shaft ∧ t.bars = s.bars ∧ t.changes = s.changes ∧ t.profiles = s.profiles ∧ t.plan = s.plan ∧
      t.speedLine = s.speedLine ∧ t.moves = s.moves ∧ t.ring = s.ring ∧ t.alerts = s.alerts ∧ t.frame = s.frame ∧
      t.pieces = s.pieces ∧ t.port = s.port ∧ t.now = s.now ∧ t.pending = s.pending) _ _ ?_ ?_
  · simp
  · intro t h a _; split <;> simpa using h

@[simp] theorem State.setChangeSet_frame (s : State) (n : Nat) (v : ChangeSet) :
    (s.setChangeSet n v).shaft = s.shaft ∧ (s.setChangeSet n v).bars = s.bars ∧
    (s.setChangeSet n v).store = s.store ∧ (s.setChangeSet n v).profiles = s.profiles ∧
    (s.setChangeSet n v).plan = s.plan ∧ (s.setChangeSet n v).speedLine = s.speedLine ∧
    (s.setChangeSet n v).moves = s.moves ∧ (s.setChangeSet n v).ring = s.ring ∧
    (s.setChangeSet n v).alerts = s.alerts ∧ (s.setChangeSet n v).frame = s.frame ∧
    (s.setChangeSet n v).pieces = s.pieces ∧ (s.setChangeSet n v).port = s.port ∧ (s.setChangeSet n v).now = s.now ∧
    (s.setChangeSet n v).pending = s.pending := by simp [State.setChangeSet]

@[simp] theorem State.unlist_frame (s : State) (n : Nat) :
    (s.unlist n).shaft = s.shaft ∧ (s.unlist n).bars = s.bars ∧ (s.unlist n).store = s.store ∧
    (s.unlist n).profiles = s.profiles ∧ (s.unlist n).plan = s.plan ∧ (s.unlist n).speedLine = s.speedLine ∧
    (s.unlist n).moves = s.moves ∧ (s.unlist n).ring = s.ring ∧ (s.unlist n).alerts = s.alerts ∧
    (s.unlist n).frame = s.frame ∧ (s.unlist n).pieces = s.pieces ∧ (s.unlist n).port = s.port ∧
    (s.unlist n).now = s.now ∧ (s.unlist n).pending = s.pending := by simp [State.unlist]

@[simp] theorem State.applyEdits_frame (s : State) (l : List (Nat × Edit)) :
    (l.foldl (fun t ke => t.applyEdit ke.1 ke.2) s).shaft = s.shaft ∧
    (l.foldl (fun t ke => t.applyEdit ke.1 ke.2) s).changes = s.changes ∧
    (l.foldl (fun t ke => t.applyEdit ke.1 ke.2) s).profiles = s.profiles ∧
    (l.foldl (fun t ke => t.applyEdit ke.1 ke.2) s).plan = s.plan ∧
    (l.foldl (fun t ke => t.applyEdit ke.1 ke.2) s).speedLine = s.speedLine ∧
    (l.foldl (fun t ke => t.applyEdit ke.1 ke.2) s).moves = s.moves ∧
    (l.foldl (fun t ke => t.applyEdit ke.1 ke.2) s).alerts = s.alerts ∧
    (l.foldl (fun t ke => t.applyEdit ke.1 ke.2) s).frame = s.frame ∧
    (l.foldl (fun t ke => t.applyEdit ke.1 ke.2) s).pieces = s.pieces ∧
    (l.foldl (fun t ke => t.applyEdit ke.1 ke.2) s).port = s.port ∧
    (l.foldl (fun t ke => t.applyEdit ke.1 ke.2) s).now = s.now ∧
    (l.foldl (fun t ke => t.applyEdit ke.1 ke.2) s).pending = s.pending := by
  refine List.foldlRecOn (motive := fun t : State =>
      t.shaft = s.shaft ∧ t.changes = s.changes ∧ t.profiles = s.profiles ∧ t.plan = s.plan ∧
      t.speedLine = s.speedLine ∧ t.moves = s.moves ∧ t.alerts = s.alerts ∧ t.frame = s.frame ∧ t.pieces = s.pieces ∧
      t.port = s.port ∧ t.now = s.now ∧ t.pending = s.pending) _ _ ?_ ?_
  · simp
  · intro t h a _; simpa using h

@[simp] theorem State.unpins_frame (s : State) (l : List Nat) :
    (l.foldl State.unpin s).shaft = s.shaft ∧ (l.foldl State.unpin s).store = s.store ∧
    (l.foldl State.unpin s).changes = s.changes ∧ (l.foldl State.unpin s).profiles = s.profiles ∧
    (l.foldl State.unpin s).plan = s.plan ∧ (l.foldl State.unpin s).speedLine = s.speedLine ∧
    (l.foldl State.unpin s).moves = s.moves ∧ (l.foldl State.unpin s).ring = s.ring ∧
    (l.foldl State.unpin s).alerts = s.alerts ∧ (l.foldl State.unpin s).frame = s.frame ∧
    (l.foldl State.unpin s).pieces = s.pieces ∧ (l.foldl State.unpin s).port = s.port ∧
    (l.foldl State.unpin s).now = s.now ∧ (l.foldl State.unpin s).pending = s.pending := by
  refine List.foldlRecOn (motive := fun t : State =>
      t.shaft = s.shaft ∧ t.store = s.store ∧ t.changes = s.changes ∧ t.profiles = s.profiles ∧ t.plan = s.plan ∧
      t.speedLine = s.speedLine ∧ t.moves = s.moves ∧ t.ring = s.ring ∧ t.alerts = s.alerts ∧ t.frame = s.frame ∧
      t.pieces = s.pieces ∧ t.port = s.port ∧ t.now = s.now ∧ t.pending = s.pending) _ _ ?_ ?_
  · simp
  · intro t h a _; simpa using h

@[simp] theorem State.applySet_frame (s : State) (n e : Nat) :
    (s.applySet n e).shaft = s.shaft ∧ (s.applySet n e).profiles = s.profiles ∧
    (s.applySet n e).speedLine = s.speedLine ∧ (s.applySet n e).moves = s.moves ∧ (s.applySet n e).frame = s.frame ∧
    (s.applySet n e).pieces = s.pieces ∧ (s.applySet n e).port = s.port ∧ (s.applySet n e).now = s.now ∧
    (s.applySet n e).pending = s.pending := by simp [State.applySet]

@[simp] theorem State.applySets_frame (s : State) :
    (s.applySets).shaft = s.shaft ∧ (s.applySets).profiles = s.profiles ∧ (s.applySets).speedLine = s.speedLine ∧
    (s.applySets).moves = s.moves ∧ (s.applySets).frame = s.frame ∧ (s.applySets).pieces = s.pieces ∧
    (s.applySets).port = s.port ∧ (s.applySets).now = s.now ∧ (s.applySets).pending = s.pending := by
  unfold State.applySets
  refine List.foldlRecOn (motive := fun t : State =>
      t.shaft = s.shaft ∧ t.profiles = s.profiles ∧ t.speedLine = s.speedLine ∧ t.moves = s.moves ∧
      t.frame = s.frame ∧ t.pieces = s.pieces ∧ t.port = s.port ∧ t.now = s.now ∧ t.pending = s.pending) _ _ ?_ ?_
  · simp
  · intro t h a _; simpa using h

@[simp] theorem State.replanFor_frame (s : State) (e f : Nat) :
    (s.replanFor e f).shaft = s.shaft ∧ (s.replanFor e f).store = s.store ∧ (s.replanFor e f).changes = s.changes ∧
    (s.replanFor e f).profiles = s.profiles ∧ (s.replanFor e f).speedLine = s.speedLine ∧
    (s.replanFor e f).frame = s.frame ∧ (s.replanFor e f).pieces = s.pieces ∧ (s.replanFor e f).port = s.port ∧
    (s.replanFor e f).now = s.now ∧ (s.replanFor e f).pending = s.pending := by
  unfold State.replanFor; (repeat' split) <;> simp

@[simp] theorem State.pins_frame (s : State) (l : List Nat) :
    (l.foldl State.pin s).shaft = s.shaft ∧ (l.foldl State.pin s).store = s.store ∧
    (l.foldl State.pin s).changes = s.changes ∧ (l.foldl State.pin s).profiles = s.profiles ∧
    (l.foldl State.pin s).plan = s.plan ∧ (l.foldl State.pin s).speedLine = s.speedLine ∧
    (l.foldl State.pin s).moves = s.moves ∧ (l.foldl State.pin s).ring = s.ring ∧
    (l.foldl State.pin s).alerts = s.alerts ∧ (l.foldl State.pin s).frame = s.frame ∧
    (l.foldl State.pin s).pieces = s.pieces ∧ (l.foldl State.pin s).port = s.port ∧
    (l.foldl State.pin s).now = s.now ∧ (l.foldl State.pin s).pending = s.pending := by
  refine List.foldlRecOn (motive := fun t : State =>
      t.shaft = s.shaft ∧ t.store = s.store ∧ t.changes = s.changes ∧ t.profiles = s.profiles ∧ t.plan = s.plan ∧
      t.speedLine = s.speedLine ∧ t.moves = s.moves ∧ t.ring = s.ring ∧ t.alerts = s.alerts ∧ t.frame = s.frame ∧
      t.pieces = s.pieces ∧ t.port = s.port ∧ t.now = s.now ∧ t.pending = s.pending) _ _ ?_ ?_
  · simp
  · intro t h a _; simpa using h

@[simp] theorem State.commitAt_frame (s : State) (n : Nat) (edits : KMap Edit) (e : Nat) :
    (s.commitAt n edits e).shaft = s.shaft ∧ (s.commitAt n edits e).profiles = s.profiles ∧
    (s.commitAt n edits e).speedLine = s.speedLine ∧ (s.commitAt n edits e).frame = s.frame ∧
    (s.commitAt n edits e).pieces = s.pieces ∧ (s.commitAt n edits e).port = s.port ∧
    (s.commitAt n edits e).now = s.now ∧ (s.commitAt n edits e).pending = s.pending := by simp [State.commitAt]

@[simp] theorem State.reopen_frame (s : State) (n : Nat) :
    (s.reopen n).shaft = s.shaft ∧ (s.reopen n).bars = s.bars ∧ (s.reopen n).profiles = s.profiles ∧
    (s.reopen n).plan = s.plan ∧ (s.reopen n).speedLine = s.speedLine ∧ (s.reopen n).moves = s.moves ∧
    (s.reopen n).ring = s.ring ∧ (s.reopen n).alerts = s.alerts ∧ (s.reopen n).frame = s.frame ∧
    (s.reopen n).pieces = s.pieces ∧ (s.reopen n).port = s.port ∧ (s.reopen n).now = s.now ∧
    (s.reopen n).pending = s.pending := by simp [State.reopen]

@[simp] theorem State.reopens_frame (s : State) (l : List Nat) :
    (l.foldl State.reopen s).shaft = s.shaft ∧ (l.foldl State.reopen s).bars = s.bars ∧
    (l.foldl State.reopen s).profiles = s.profiles ∧ (l.foldl State.reopen s).plan = s.plan ∧
    (l.foldl State.reopen s).speedLine = s.speedLine ∧ (l.foldl State.reopen s).moves = s.moves ∧
    (l.foldl State.reopen s).ring = s.ring ∧ (l.foldl State.reopen s).alerts = s.alerts ∧
    (l.foldl State.reopen s).frame = s.frame ∧ (l.foldl State.reopen s).pieces = s.pieces ∧
    (l.foldl State.reopen s).port = s.port ∧ (l.foldl State.reopen s).now = s.now ∧
    (l.foldl State.reopen s).pending = s.pending := by
  refine List.foldlRecOn (motive := fun t : State =>
      t.shaft = s.shaft ∧ t.bars = s.bars ∧ t.profiles = s.profiles ∧ t.plan = s.plan ∧ t.speedLine = s.speedLine ∧
      t.moves = s.moves ∧ t.ring = s.ring ∧ t.alerts = s.alerts ∧ t.frame = s.frame ∧ t.pieces = s.pieces ∧
      t.port = s.port ∧ t.now = s.now ∧ t.pending = s.pending) _ _ ?_ ?_
  · simp
  · intro t h a _; simpa using h

@[simp] theorem State.cancelFrom_frame (s : State) (n : Nat) :
    (s.cancelFrom n).shaft = s.shaft ∧ (s.cancelFrom n).profiles = s.profiles ∧
    (s.cancelFrom n).speedLine = s.speedLine ∧ (s.cancelFrom n).frame = s.frame ∧
    (s.cancelFrom n).pieces = s.pieces ∧ (s.cancelFrom n).port = s.port ∧ (s.cancelFrom n).now = s.now ∧
    (s.cancelFrom n).pending = s.pending := by simp [State.cancelFrom]

@[simp] theorem State.hold_frame (s : State) (r : Reply) :
    (s.hold r).shaft = s.shaft ∧ (s.hold r).bars = s.bars ∧ (s.hold r).store = s.store ∧
    (s.hold r).changes = s.changes ∧ (s.hold r).profiles = s.profiles ∧ (s.hold r).plan = s.plan ∧
    (s.hold r).speedLine = s.speedLine ∧ (s.hold r).moves = s.moves ∧ (s.hold r).ring = s.ring ∧
    (s.hold r).alerts = s.alerts ∧ (s.hold r).frame = s.frame ∧ (s.hold r).pieces = s.pieces ∧
    (s.hold r).now = s.now ∧ (s.hold r).pending = s.pending := by simp [State.hold]

@[simp] theorem State.shiftOut_frame (s : State) (bytes : List Byte) :
    (s.shiftOut bytes).shaft = s.shaft ∧ (s.shiftOut bytes).bars = s.bars ∧ (s.shiftOut bytes).store = s.store ∧
    (s.shiftOut bytes).changes = s.changes ∧ (s.shiftOut bytes).profiles = s.profiles ∧
    (s.shiftOut bytes).plan = s.plan ∧ (s.shiftOut bytes).speedLine = s.speedLine ∧
    (s.shiftOut bytes).moves = s.moves ∧ (s.shiftOut bytes).ring = s.ring ∧ (s.shiftOut bytes).alerts = s.alerts ∧
    (s.shiftOut bytes).frame = s.frame ∧ (s.shiftOut bytes).pieces = s.pieces ∧ (s.shiftOut bytes).now = s.now ∧
    (s.shiftOut bytes).pending = s.pending := by simp [State.shiftOut]

@[simp] theorem State.refuseBusy_frame (s : State) (n : Nat) :
    (s.refuseBusy n).shaft = s.shaft ∧ (s.refuseBusy n).bars = s.bars ∧ (s.refuseBusy n).store = s.store ∧
    (s.refuseBusy n).changes = s.changes ∧ (s.refuseBusy n).profiles = s.profiles ∧ (s.refuseBusy n).plan = s.plan ∧
    (s.refuseBusy n).speedLine = s.speedLine ∧ (s.refuseBusy n).moves = s.moves ∧ (s.refuseBusy n).ring = s.ring ∧
    (s.refuseBusy n).alerts = s.alerts ∧ (s.refuseBusy n).frame = s.frame ∧ (s.refuseBusy n).pieces = s.pieces ∧
    (s.refuseBusy n).now = s.now ∧ (s.refuseBusy n).pending = s.pending := by simp [State.refuseBusy]

@[simp] theorem State.takeRequest_frame (s : State) (n : Nat) :
    (s.takeRequest n).shaft = s.shaft ∧ (s.takeRequest n).bars = s.bars ∧ (s.takeRequest n).store = s.store ∧
    (s.takeRequest n).changes = s.changes ∧ (s.takeRequest n).profiles = s.profiles ∧
    (s.takeRequest n).plan = s.plan ∧ (s.takeRequest n).speedLine = s.speedLine ∧ (s.takeRequest n).moves = s.moves ∧
    (s.takeRequest n).ring = s.ring ∧ (s.takeRequest n).alerts = s.alerts ∧ (s.takeRequest n).frame = s.frame ∧
    (s.takeRequest n).pieces = s.pieces ∧ (s.takeRequest n).now = s.now ∧ (s.takeRequest n).pending = s.pending := by simp [State.takeRequest]

@[simp] theorem State.readTransaction_frame (s : State) (n : Nat) :
    (s.readTransaction n).shaft = s.shaft ∧ (s.readTransaction n).bars = s.bars ∧
    (s.readTransaction n).store = s.store ∧ (s.readTransaction n).changes = s.changes ∧
    (s.readTransaction n).profiles = s.profiles ∧ (s.readTransaction n).plan = s.plan ∧
    (s.readTransaction n).speedLine = s.speedLine ∧ (s.readTransaction n).moves = s.moves ∧
    (s.readTransaction n).ring = s.ring ∧ (s.readTransaction n).alerts = s.alerts ∧
    (s.readTransaction n).frame = s.frame ∧ (s.readTransaction n).pieces = s.pieces ∧
    (s.readTransaction n).now = s.now ∧ (s.readTransaction n).pending = s.pending := by
  unfold State.readTransaction; (repeat' split) <;> simp

@[simp] theorem State.handShaftState_frame (s : State) (before : ShaftState) (d : Dir) :
    (s.handShaftState before d).shaft = s.shaft ∧ (s.handShaftState before d).store = s.store ∧
    (s.handShaftState before d).changes = s.changes ∧ (s.handShaftState before d).profiles = s.profiles ∧
    (s.handShaftState before d).speedLine = s.speedLine ∧ (s.handShaftState before d).alerts = s.alerts ∧
    (s.handShaftState before d).frame = s.frame ∧ (s.handShaftState before d).pieces = s.pieces ∧
    (s.handShaftState before d).port = s.port ∧ (s.handShaftState before d).now = s.now ∧
    (s.handShaftState before d).pending = s.pending := by
  unfold State.handShaftState; (repeat' split) <;> simp

@[simp] theorem State.beginStep_frame (s : State) (channel : Channel) (d : Dir) :
    (s.beginStep channel d).store = s.store ∧ (s.beginStep channel d).changes = s.changes ∧
    (s.beginStep channel d).profiles = s.profiles ∧ (s.beginStep channel d).speedLine = s.speedLine ∧
    (s.beginStep channel d).alerts = s.alerts ∧ (s.beginStep channel d).frame = s.frame ∧
    (s.beginStep channel d).pieces = s.pieces ∧ (s.beginStep channel d).port = s.port ∧
    (s.beginStep channel d).now = s.now ∧ (s.beginStep channel d).pending = s.pending := by simp [State.beginStep]

@[simp] theorem State.raiseOverrunSlip_frame (s : State) (slips : Bool) :
    (s.raiseOverrunSlip slips).bars = s.bars ∧ (s.raiseOverrunSlip slips).store = s.store ∧
    (s.raiseOverrunSlip slips).changes = s.changes ∧ (s.raiseOverrunSlip slips).profiles = s.profiles ∧
    (s.raiseOverrunSlip slips).plan = s.plan ∧ (s.raiseOverrunSlip slips).speedLine = s.speedLine ∧
    (s.raiseOverrunSlip slips).moves = s.moves ∧ (s.raiseOverrunSlip slips).ring = s.ring ∧
    (s.raiseOverrunSlip slips).frame = s.frame ∧ (s.raiseOverrunSlip slips).pieces = s.pieces ∧
    (s.raiseOverrunSlip slips).port = s.port ∧ (s.raiseOverrunSlip slips).now = s.now ∧
    (s.raiseOverrunSlip slips).pending = s.pending := by
  unfold State.raiseOverrunSlip; (repeat' split) <;> simp

@[simp] theorem State.endPiece_frame (s : State) :
    (s.endPiece).shaft = s.shaft ∧ (s.endPiece).bars = s.bars ∧ (s.endPiece).store = s.store ∧
    (s.endPiece).changes = s.changes ∧ (s.endPiece).profiles = s.profiles ∧ (s.endPiece).plan = s.plan ∧
    (s.endPiece).speedLine = s.speedLine ∧ (s.endPiece).moves = s.moves ∧ (s.endPiece).ring = s.ring ∧
    (s.endPiece).frame = s.frame ∧ (s.endPiece).port = s.port ∧ (s.endPiece).now = s.now ∧
    (s.endPiece).pending = s.pending := by simp [State.endPiece]

@[simp] theorem State.countPieces_frame (s : State) (r : CourseReport) :
    (s.countPieces r).shaft = s.shaft ∧ (s.countPieces r).bars = s.bars ∧ (s.countPieces r).store = s.store ∧
    (s.countPieces r).changes = s.changes ∧ (s.countPieces r).profiles = s.profiles ∧
    (s.countPieces r).plan = s.plan ∧ (s.countPieces r).speedLine = s.speedLine ∧ (s.countPieces r).moves = s.moves ∧
    (s.countPieces r).ring = s.ring ∧ (s.countPieces r).frame = s.frame ∧ (s.countPieces r).port = s.port ∧
    (s.countPieces r).now = s.now ∧ (s.countPieces r).pending = s.pending := by
  unfold State.countPieces; (repeat' split) <;> simp

@[simp] theorem State.entryBars_frame (s : State) (r : CourseReport) :
    (s.entryBars r).shaft = s.shaft ∧ (s.entryBars r).profiles = s.profiles ∧
    (s.entryBars r).speedLine = s.speedLine ∧ (s.entryBars r).moves = s.moves ∧ (s.entryBars r).frame = s.frame ∧
    (s.entryBars r).pieces = s.pieces ∧ (s.entryBars r).port = s.port ∧ (s.entryBars r).now = s.now ∧
    (s.entryBars r).pending = s.pending := by
  unfold State.entryBars; (repeat' split) <;> simp

@[simp] theorem State.entryPlan_frame (s : State) (r : CourseReport) :
    (s.entryPlan r).shaft = s.shaft ∧ (s.entryPlan r).store = s.store ∧ (s.entryPlan r).changes = s.changes ∧
    (s.entryPlan r).profiles = s.profiles ∧ (s.entryPlan r).speedLine = s.speedLine ∧
    (s.entryPlan r).frame = s.frame ∧ (s.entryPlan r).pieces = s.pieces ∧ (s.entryPlan r).port = s.port ∧
    (s.entryPlan r).now = s.now ∧ (s.entryPlan r).pending = s.pending := by
  unfold State.entryPlan; (repeat' split) <;> simp

@[simp] theorem State.entryPlace_frame (s : State) (r : CourseReport) :
    (s.entryPlace r).shaft = s.shaft ∧ (s.entryPlace r).bars = s.bars ∧ (s.entryPlace r).store = s.store ∧
    (s.entryPlace r).changes = s.changes ∧ (s.entryPlace r).profiles = s.profiles ∧ (s.entryPlace r).plan = s.plan ∧
    (s.entryPlace r).speedLine = s.speedLine ∧ (s.entryPlace r).ring = s.ring ∧ (s.entryPlace r).alerts = s.alerts ∧
    (s.entryPlace r).frame = s.frame ∧ (s.entryPlace r).pieces = s.pieces ∧ (s.entryPlace r).port = s.port ∧
    (s.entryPlace r).now = s.now ∧ (s.entryPlace r).pending = s.pending := by simp [State.entryPlace]

@[simp] theorem State.takeReport_frame (s : State) (r : CourseReport) :
    (s.takeReport r).shaft = s.shaft ∧ (s.takeReport r).profiles = s.profiles ∧
    (s.takeReport r).speedLine = s.speedLine ∧ (s.takeReport r).frame = s.frame ∧ (s.takeReport r).port = s.port ∧
    (s.takeReport r).now = s.now ∧ (s.takeReport r).pending = s.pending := by simp [State.takeReport]

@[simp] theorem State.sealProgram_frame (s : State) (n : Nat) (p : Program) (steps : List Step) (courseLength depth : Nat) :
    (s.sealProgram n p steps courseLength depth).shaft = s.shaft ∧
    (s.sealProgram n p steps courseLength depth).bars = s.bars ∧
    (s.sealProgram n p steps courseLength depth).changes = s.changes ∧
    (s.sealProgram n p steps courseLength depth).profiles = s.profiles ∧
    (s.sealProgram n p steps courseLength depth).plan = s.plan ∧
    (s.sealProgram n p steps courseLength depth).speedLine = s.speedLine ∧
    (s.sealProgram n p steps courseLength depth).moves = s.moves ∧
    (s.sealProgram n p steps courseLength depth).ring = s.ring ∧
    (s.sealProgram n p steps courseLength depth).alerts = s.alerts ∧
    (s.sealProgram n p steps courseLength depth).frame = s.frame ∧
    (s.sealProgram n p steps courseLength depth).pieces = s.pieces ∧
    (s.sealProgram n p steps courseLength depth).port = s.port ∧
    (s.sealProgram n p steps courseLength depth).now = s.now ∧
    (s.sealProgram n p steps courseLength depth).pending = s.pending := by simp [State.sealProgram]

@[simp] theorem State.endSeal_frame (s : State) (n : Nat) (p : Program) :
    (s.endSeal n p).shaft = s.shaft ∧ (s.endSeal n p).bars = s.bars ∧ (s.endSeal n p).changes = s.changes ∧
    (s.endSeal n p).profiles = s.profiles ∧ (s.endSeal n p).plan = s.plan ∧ (s.endSeal n p).speedLine = s.speedLine ∧
    (s.endSeal n p).moves = s.moves ∧ (s.endSeal n p).ring = s.ring ∧ (s.endSeal n p).alerts = s.alerts ∧
    (s.endSeal n p).frame = s.frame ∧ (s.endSeal n p).pieces = s.pieces ∧ (s.endSeal n p).now = s.now ∧
    (s.endSeal n p).pending = s.pending := by
  unfold State.endSeal; (repeat' split) <;> simp

@[simp] theorem State.parkBinding_frame (s : State) (slot : Nat) :
    (s.parkBinding slot).shaft = s.shaft ∧ (s.parkBinding slot).store = s.store ∧
    (s.parkBinding slot).changes = s.changes ∧ (s.parkBinding slot).profiles = s.profiles ∧
    (s.parkBinding slot).plan = s.plan ∧ (s.parkBinding slot).speedLine = s.speedLine ∧
    (s.parkBinding slot).moves = s.moves ∧ (s.parkBinding slot).alerts = s.alerts ∧
    (s.parkBinding slot).frame = s.frame ∧ (s.parkBinding slot).pieces = s.pieces ∧
    (s.parkBinding slot).port = s.port ∧ (s.parkBinding slot).now = s.now ∧ (s.parkBinding slot).pending = s.pending := by
  unfold State.parkBinding; (repeat' split) <;> simp

@[simp] theorem State.parkIdle_frame (s : State) (slot : Nat) :
    (s.parkIdle slot).shaft = s.shaft ∧ (s.parkIdle slot).store = s.store ∧ (s.parkIdle slot).changes = s.changes ∧
    (s.parkIdle slot).profiles = s.profiles ∧ (s.parkIdle slot).plan = s.plan ∧
    (s.parkIdle slot).speedLine = s.speedLine ∧ (s.parkIdle slot).moves = s.moves ∧
    (s.parkIdle slot).alerts = s.alerts ∧ (s.parkIdle slot).frame = s.frame ∧ (s.parkIdle slot).pieces = s.pieces ∧
    (s.parkIdle slot).port = s.port ∧ (s.parkIdle slot).now = s.now ∧ (s.parkIdle slot).pending = s.pending := by simp [State.parkIdle]

@[simp] theorem State.changeProfile_frame (s : State) (slot profile : Nat) :
    (s.changeProfile slot profile).shaft = s.shaft ∧ (s.changeProfile slot profile).store = s.store ∧
    (s.changeProfile slot profile).changes = s.changes ∧ (s.changeProfile slot profile).profiles = s.profiles ∧
    (s.changeProfile slot profile).plan = s.plan ∧ (s.changeProfile slot profile).speedLine = s.speedLine ∧
    (s.changeProfile slot profile).moves = s.moves ∧ (s.changeProfile slot profile).alerts = s.alerts ∧
    (s.changeProfile slot profile).frame = s.frame ∧ (s.changeProfile slot profile).pieces = s.pieces ∧
    (s.changeProfile slot profile).port = s.port ∧ (s.changeProfile slot profile).now = s.now ∧
    (s.changeProfile slot profile).pending = s.pending := by
  unfold State.changeProfile; (repeat' split) <;> simp

@[simp] theorem State.changeLimits_frame (s : State) (slot : Nat) (low high : Int) :
    (s.changeLimits slot low high).shaft = s.shaft ∧ (s.changeLimits slot low high).store = s.store ∧
    (s.changeLimits slot low high).changes = s.changes ∧ (s.changeLimits slot low high).profiles = s.profiles ∧
    (s.changeLimits slot low high).speedLine = s.speedLine ∧ (s.changeLimits slot low high).moves = s.moves ∧
    (s.changeLimits slot low high).ring = s.ring ∧ (s.changeLimits slot low high).alerts = s.alerts ∧
    (s.changeLimits slot low high).frame = s.frame ∧ (s.changeLimits slot low high).pieces = s.pieces ∧
    (s.changeLimits slot low high).port = s.port ∧ (s.changeLimits slot low high).now = s.now ∧
    (s.changeLimits slot low high).pending = s.pending := by simp [State.changeLimits]

@[simp] theorem State.placeTracker_frame (s : State) (n : Nat) :
    (s.placeTracker n).shaft = s.shaft ∧ (s.placeTracker n).bars = s.bars ∧ (s.placeTracker n).store = s.store ∧
    (s.placeTracker n).changes = s.changes ∧ (s.placeTracker n).profiles = s.profiles ∧
    (s.placeTracker n).plan = s.plan ∧ (s.placeTracker n).speedLine = s.speedLine ∧
    (s.placeTracker n).ring = s.ring ∧ (s.placeTracker n).alerts = s.alerts ∧ (s.placeTracker n).frame = s.frame ∧
    (s.placeTracker n).pieces = s.pieces ∧ (s.placeTracker n).port = s.port ∧ (s.placeTracker n).now = s.now ∧
    (s.placeTracker n).pending = s.pending := by simp [State.placeTracker]

@[simp] theorem State.replaceProfile_frame (s : State) (n : Nat) (p : Profile) :
    (s.replaceProfile n p).shaft = s.shaft ∧ (s.replaceProfile n p).store = s.store ∧
    (s.replaceProfile n p).changes = s.changes ∧ (s.replaceProfile n p).plan = s.plan ∧
    (s.replaceProfile n p).speedLine = s.speedLine ∧ (s.replaceProfile n p).alerts = s.alerts ∧
    (s.replaceProfile n p).frame = s.frame ∧ (s.replaceProfile n p).pieces = s.pieces ∧
    (s.replaceProfile n p).port = s.port ∧ (s.replaceProfile n p).now = s.now ∧
    (s.replaceProfile n p).pending = s.pending := by
  unfold State.replaceProfile
  refine List.foldlRecOn (motive := fun t : State =>
      t.shaft = s.shaft ∧ t.store = s.store ∧ t.changes = s.changes ∧ t.plan = s.plan ∧ t.speedLine = s.speedLine ∧
      t.alerts = s.alerts ∧ t.frame = s.frame ∧ t.pieces = s.pieces ∧ t.port = s.port ∧ t.now = s.now ∧
      t.pending = s.pending) _ _ ?_ ?_
  · simp
  · intro t h a _; split <;> simpa using h

@[simp] theorem State.retrainRing_frame (s : State) :
    (s.retrainRing).shaft = s.shaft ∧ (s.retrainRing).store = s.store ∧ (s.retrainRing).changes = s.changes ∧
    (s.retrainRing).profiles = s.profiles ∧ (s.retrainRing).plan = s.plan ∧ (s.retrainRing).speedLine = s.speedLine ∧
    (s.retrainRing).moves = s.moves ∧ (s.retrainRing).frame = s.frame ∧ (s.retrainRing).pieces = s.pieces ∧
    (s.retrainRing).port = s.port ∧ (s.retrainRing).now = s.now ∧ (s.retrainRing).pending = s.pending := by
  unfold State.retrainRing; (repeat' split) <;> simp

@[simp] theorem State.writeFrame_frame (s : State) (f : FrameConstants) :
    (s.writeFrame f).shaft = s.shaft ∧ (s.writeFrame f).store = s.store ∧ (s.writeFrame f).changes = s.changes ∧
    (s.writeFrame f).profiles = s.profiles ∧ (s.writeFrame f).speedLine = s.speedLine ∧
    (s.writeFrame f).pieces = s.pieces ∧ (s.writeFrame f).port = s.port ∧ (s.writeFrame f).now = s.now ∧
    (s.writeFrame f).pending = s.pending := by simp [State.writeFrame]

@[simp] theorem State.warmPlan_frame (s : State) :
    (s.warmPlan).shaft = s.shaft ∧ (s.warmPlan).bars = s.bars ∧ (s.warmPlan).store = s.store ∧
    (s.warmPlan).changes = s.changes ∧ (s.warmPlan).profiles = s.profiles ∧ (s.warmPlan).speedLine = s.speedLine ∧
    (s.warmPlan).moves = s.moves ∧ (s.warmPlan).ring = s.ring ∧ (s.warmPlan).alerts = s.alerts ∧
    (s.warmPlan).frame = s.frame ∧ (s.warmPlan).pieces = s.pieces ∧ (s.warmPlan).port = s.port ∧
    (s.warmPlan).now = s.now ∧ (s.warmPlan).pending = s.pending := by simp [State.warmPlan]

@[simp] theorem State.warmRing_frame (s : State) :
    (s.warmRing).shaft = s.shaft ∧ (s.warmRing).bars = s.bars ∧ (s.warmRing).store = s.store ∧
    (s.warmRing).changes = s.changes ∧ (s.warmRing).profiles = s.profiles ∧ (s.warmRing).plan = s.plan ∧
    (s.warmRing).speedLine = s.speedLine ∧ (s.warmRing).moves = s.moves ∧ (s.warmRing).alerts = s.alerts ∧
    (s.warmRing).frame = s.frame ∧ (s.warmRing).pieces = s.pieces ∧ (s.warmRing).port = s.port ∧
    (s.warmRing).now = s.now ∧ (s.warmRing).pending = s.pending := by
  unfold State.warmRing; (repeat' split) <;> simp

@[simp] theorem State.startAttempts_frame (s : State) :
    (s.startAttempts).shaft = s.shaft ∧ (s.startAttempts).bars = s.bars ∧ (s.startAttempts).store = s.store ∧
    (s.startAttempts).changes = s.changes ∧ (s.startAttempts).profiles = s.profiles ∧
    (s.startAttempts).plan = s.plan ∧ (s.startAttempts).speedLine = s.speedLine ∧ (s.startAttempts).moves = s.moves ∧
    (s.startAttempts).alerts = s.alerts ∧ (s.startAttempts).frame = s.frame ∧ (s.startAttempts).pieces = s.pieces ∧
    (s.startAttempts).port = s.port ∧ (s.startAttempts).now = s.now ∧ (s.startAttempts).pending = s.pending := by
  unfold State.startAttempts
  refine List.foldlRecOn (motive := fun t : State =>
      t.shaft = s.shaft ∧ t.bars = s.bars ∧ t.store = s.store ∧ t.changes = s.changes ∧ t.profiles = s.profiles ∧
      t.plan = s.plan ∧ t.speedLine = s.speedLine ∧ t.moves = s.moves ∧ t.alerts = s.alerts ∧ t.frame = s.frame ∧
      t.pieces = s.pieces ∧ t.port = s.port ∧ t.now = s.now ∧ t.pending = s.pending) _ _ ?_ ?_
  · simp
  · intro t h a _; split <;> simpa using h

@[simp] theorem State.warmRecords_frame (s : State) :
    (s.warmRecords).shaft = s.shaft ∧ (s.warmRecords).bars = s.bars ∧ (s.warmRecords).store = s.store ∧
    (s.warmRecords).changes = s.changes ∧ (s.warmRecords).profiles = s.profiles ∧
    (s.warmRecords).speedLine = s.speedLine ∧ (s.warmRecords).ring = s.ring ∧ (s.warmRecords).frame = s.frame ∧
    (s.warmRecords).pieces = s.pieces ∧ (s.warmRecords).port = s.port ∧ (s.warmRecords).now = s.now ∧
    (s.warmRecords).pending = s.pending := by simp [State.warmRecords]

@[simp] theorem State.warmReset_frame (s : State) :
    (s.warmReset).profiles = s.profiles ∧ (s.warmReset).frame = s.frame ∧ (s.warmReset).pieces = s.pieces ∧
    (s.warmReset).port = s.port ∧ (s.warmReset).now = s.now ∧ (s.warmReset).pending = s.pending := by simp [State.warmReset]

end Sys2Proof.Machine
end

