-- ==== Sys2Proof/Laws/Expiries.lean ====
section
/-! SUPPORT. What the passing of time can do: the clock reaches its time, the Shaft Tracker keeps its position, its counts and its
levels, and nothing but the clock and the timers moves where no timer reaches its limit. -/

namespace Sys2Proof.Machine

/-! ### The first timer -/

/-- What the choice of the first timer from a list leaves: one of the list, or the one it began with, and none left less. -/
theorem firstTimer_foldl (l : List (Timer × Nat)) (best : Option (Timer × Nat)) (kt : Timer × Nat)
    (h : l.foldl
      (fun best kt =>
        match best with
        | none => some kt
        | some b => if kt.2 < b.2 then some kt else some b) best = some kt) :
    (kt ∈ l ∨ best = some kt) ∧ (∀ kd ∈ l, kt.2 ≤ kd.2) ∧ ∀ b ∈ best, kt.2 ≤ b.2 := by
  induction l generalizing best with
  | nil => exact ⟨.inr h, by simp, fun b hb => by simp_all⟩
  | cons a l ih =>
    obtain ⟨hm, hl, hb⟩ := ih _ h
    cases best with
    | none =>
      have ha := hb a rfl
      refine ⟨.inl ?_, ?_, by simp⟩
      · rcases hm with hm | hm
        · exact List.mem_cons_of_mem _ hm
        · simp_all
      · intro kd hkd
        rcases List.mem_cons.1 hkd with rfl | hkd
        · exact ha
        · exact hl kd hkd
    | some b =>
      by_cases hab : a.2 < b.2
      · simp only [hab, if_true] at hm hb
        have ha := hb a rfl
        refine ⟨.inl ?_, ?_, ?_⟩
        · rcases hm with hm | hm
          · exact List.mem_cons_of_mem _ hm
          · simp_all
        · intro kd hkd
          rcases List.mem_cons.1 hkd with rfl | hkd
          · exact ha
          · exact hl kd hkd
        · intro b' hb'
          cases hb'
          omega
      · simp only [hab, if_false] at hm hb
        have hb1 := hb b rfl
        refine ⟨?_, ?_, ?_⟩
        · rcases hm with hm | hm
          · exact .inl (List.mem_cons_of_mem _ hm)
          · exact .inr hm
        · intro kd hkd
          rcases List.mem_cons.1 hkd with rfl | hkd
          · omega
          · exact hl kd hkd
        · intro b' hb'
          cases hb'
          exact hb1

/-- The first timer runs, and no timer that runs has less time left. -/
theorem State.nextTimer_first {s : State} {kt : Timer × Nat} (h : s.nextTimer = some kt) :
    kt ∈ s.timers ∧ ∀ kd ∈ s.timers, kt.2 ≤ kd.2 := by
  obtain ⟨hm, hl, -⟩ := firstTimer_foldl _ _ _ h
  exact ⟨hm.resolve_right (by simp), hl⟩

/-! ### The clock -/

@[simp] theorem State.passTime_now (s : State) (micros : Nat) : (s.passTime micros).now = s.now + micros := rfl

/-- An interval takes as long as it is, whatever expires in it. -/
theorem State.elapse_now (fuel left : Nat) (s : State) : (State.elapse fuel left s).now = s.now + left := by
  induction fuel generalizing left s with
  | zero => rfl
  | succ n ih =>
    rw [State.elapse]
    split
    · split
      · rw [ih]
        simp only [State.expire_frame, State.passTime_now]
        omega
      · rfl
    · rfl

/-- A time that is past leaves the state as it is. -/
theorem State.passUntil_past {s : State} {time : Nat} (h : time ≤ s.now) : s.passUntil time = s := by
  simp [State.passUntil, h]

/-- The clock goes on to the time, or stays where that is past. -/
theorem State.passUntil_now (s : State) (time : Nat) : (s.passUntil time).now = max s.now time := by
  by_cases h : time ≤ s.now
  · rw [State.passUntil_past h]
    omega
  · simp only [State.passUntil, h, if_false, State.elapse_now]
    omega

/-- Where no timer reaches its limit by then, nothing but the clock and the timers goes on. -/
theorem State.passUntil_quiet {s : State} {time : Nat} (h : s.now < time)
    (quiet : ∀ kd ∈ s.timers, time - s.now < kd.2) : s.passUntil time = s.passTime (time - s.now) := by
  have h' : ¬time ≤ s.now := by omega
  simp only [State.passUntil, h', if_false]
  obtain ⟨fuel, hf⟩ := Nat.exists_eq_succ_of_ne_zero (show s.expiryBound (time - s.now) ≠ 0 by simp [State.expiryBound])
  rw [hf, State.elapse]
  split
  · rename_i k due hk
    have hd := quiet _ (State.nextTimer_first hk).1
    simp only at hd
    rw [if_neg (by omega)]
  · rfl

/-! ### The Shaft Tracker -/

/-- An expiry touches the shaft state, the stall timer, the period and the run start of the Shaft Tracker alone. -/
theorem State.expire_shaft (s : State) (k : Timer) :
    (s.expire k).shaft = { s.shaft with
      state := (s.expire k).shaft.state, stall := (s.expire k).shaft.stall
      period := (s.expire k).shaft.period, runStart := (s.expire k).shaft.runStart } := by
  cases k with
  | stall => simp only [State.expire, State.stallExpires]; split <;> simp [Shaft.stalled, Shaft.breakRun]
  | transit => simp [State.expire]
  | idle => simp [State.expire]
  | retry slot => simp [State.expire]

/-- The passing of an interval touches the shaft state, the stall timer, the period and the run start of the Shaft Tracker
alone. -/
theorem State.elapse_shaft (fuel left : Nat) (s : State) :
    ∃ state stall period runStart,
      (State.elapse fuel left s).shaft = { s.shaft with state, stall, period, runStart } := by
  induction fuel generalizing left s with
  | zero => exact ⟨_, _, _, _, rfl⟩
  | succ n ih =>
    rw [State.elapse]
    split
    · rename_i k due _
      split
      · obtain ⟨a, b, c, d, e⟩ := ih (left - due) ((s.passTime due).expire k)
        rw [State.expire_shaft] at e
        exact ⟨a, b, c, d, e⟩
      · exact ⟨_, _, _, _, rfl⟩
    · exact ⟨_, _, _, _, rfl⟩

/-- The passing of time keeps the position, the counts and the levels of the Shaft Tracker. -/
theorem State.passUntil_shaft (s : State) (time : Nat) :
    ∃ state stall period runStart, (s.passUntil time).shaft = { s.shaft with state, stall, period, runStart } := by
  unfold State.passUntil
  split
  · exact ⟨_, _, _, _, rfl⟩
  · exact State.elapse_shaft _ _ s

end Sys2Proof.Machine
end

