-- ==== Sys2Proof/Laws/Ops.lean ====
section
/-! SUPPORT. What each shared operation does, said once: reading a bar after a change of one, a bar's state, raising an alert,
settling the permitted speed, the send queue, and a request taken by an idle or a PERFORMING port. -/

namespace Sys2Proof.Machine

/-! ### Reading a bar -/

/-- A changed bar reads as the change of what it read before; every other bar reads as before. -/
theorem State.bar_onBar (s : State) (slot : Nat) (f : Bar → Bar) (n : Nat) :
    (s.onBar slot f).bar n = if slot = n ∧ n < s.bars.length then f (s.bar n) else s.bar n := by
  simp only [State.bar, State.onBar, List.getD_eq_getElem?_getD, List.getElem?_modify]
  by_cases h : slot = n
  · subst h
    by_cases l : slot < s.bars.length
    · simp [l]
    · simp [l]
  · simp [h]

theorem State.bar_onBar_ne (s : State) {slot n : Nat} (f : Bar → Bar) (h : slot ≠ n) : (s.onBar slot f).bar n = s.bar n := by
  simp [State.bar_onBar, h]

theorem State.length_bars_onBar (s : State) (slot : Nat) (f : Bar → Bar) : (s.onBar slot f).bars.length = s.bars.length := by
  simp [State.onBar]

/-- The bars after a bar's state is set: the binding attempt it starts or ends touches no bar. -/
theorem State.setBarState_bars (s : State) (slot : Nat) (next : BarState) :
    (s.setBarState slot next).bars = (s.onBar slot fun b => { b with state := next }).bars := by
  simp only [State.setBarState]
  split
  · simp
  · split
    · simp
    · rfl

/-- A bar after a bar's state is set. -/
theorem State.bar_setBarState (s : State) (slot : Nat) (next : BarState) (n : Nat) :
    (s.setBarState slot next).bar n = if slot = n ∧ n < s.bars.length then { s.bar n with state := next } else s.bar n := by
  have h : (s.setBarState slot next).bar n = (s.onBar slot fun b => { b with state := next }).bar n := by
    simp only [State.bar, State.setBarState_bars]
  rw [h, State.bar_onBar]

/-- An ENGAGED bar becomes FAULTED, any other bar stays (R32). -/
theorem State.bar_faultBar (s : State) (slot n : Nat) :
    (s.faultBar slot).bar n
      = if (s.bar slot).state = .engaged ∧ slot = n ∧ n < s.bars.length then { s.bar n with state := .faulted } else s.bar n := by
  by_cases h : (s.bar slot).state = .engaged
  · simp [State.faultBar, h, State.bar_setBarState]
  · simp [State.faultBar, h]

/-! ### Alerts -/

/-- A raise: the record of its kind takes it, and both lines follow. -/
theorem State.raiseAlert_alerts (s : State) (kind : AlertKind) (slot course : Option Nat) :
    (s.raiseAlert kind slot course).alerts
      = ({ s.alerts with records := s.alerts.records.modify kind.number (·.raised slot course) } : AlertUnit).recompute := rfl

theorem State.raiseAlert_linesLaw (s : State) (kind : AlertKind) (slot course : Option Nat) :
    (s.raiseAlert kind slot course).linesLaw := ⟨rfl, rfl⟩

/-- Of all records, a raise changes that of its kind. -/
theorem State.record_raiseAlert (s : State) (kind : AlertKind) (slot course : Option Nat) (n : Nat) :
    (s.raiseAlert kind slot course).alerts.record n
      = if kind.number = n ∧ n < s.alerts.records.length then (s.alerts.record n).raised slot course
        else s.alerts.record n := by
  simp only [State.raiseAlert_alerts, AlertUnit.recompute, AlertUnit.record, List.getD_eq_getElem?_getD,
    List.getElem?_modify]
  by_cases h : kind.number = n
  · subst h
    by_cases l : kind.number < s.alerts.records.length
    · simp [l]
    · simp [l]
  · simp [h]

/-! ### The permitted speed -/

/-- Nothing happens at the end of a step that changed no input of P and wants no send. -/
theorem State.settle_of_speedLaw {s : State} (h : s.speedLaw) : s.settle false = s := by
  have h' : s.permittedSpeed = s.plan.p := h.symm
  simp [State.settle, h', State.onPlan]

/-- P does not enter what the permitted speed is. -/
theorem State.permittedSpeed_onP (s : State) (v : Nat) :
    (s.onPlan fun p => { p with p := v }).permittedSpeed = s.permittedSpeed := rfl

theorem State.wantSend_plan_p (s : State) : s.wantSend.plan.p = s.plan.p := by simp

/-- At the end of a step P is the permitted speed, and a send was wanted exactly where P changed. -/
theorem State.settle_speedFollows (s : State) : s.speedFollows (s.settle false) := by
  by_cases h : s.permittedSpeed = s.plan.p
  · rw [State.settle_of_speedLaw h.symm]
    exact ⟨h.symm, by simp⟩
  · have e : s.settle false = (s.onPlan fun p => { p with p := s.permittedSpeed }).wantSend := by
      simp [State.settle, h]
    rw [e]
    refine ⟨rfl, ?_⟩
    have hp : ((s.onPlan fun p => { p with p := s.permittedSpeed }).wantSend).plan.p = s.permittedSpeed := rfl
    rw [hp, if_neg h]
    rfl

/-! ### The send queue -/

/-- A frame handed to the queue is in it. -/
theorem mem_placeFrame (replaces : QueuedFrame → Bool) (frame : QueuedFrame) (queue : List QueuedFrame) :
    frame ∈ placeFrame replaces frame queue := by
  unfold placeFrame
  split
  · rename_i h
    obtain ⟨q, hq, hr⟩ := List.any_eq_true.mp h
    exact List.mem_map.mpr ⟨q, hq, by simp [hr]⟩
  · simp

/-- A frame that the one handed does not replace stays in the queue. -/
theorem mem_placeFrame_of_mem {replaces : QueuedFrame → Bool} {frame q : QueuedFrame} {queue : List QueuedFrame}
    (hq : q ∈ queue) (hr : replaces q = false) : q ∈ placeFrame replaces frame queue := by
  unfold placeFrame
  split
  · exact List.mem_map.mpr ⟨q, hq, by simp [hr]⟩
  · simp [hq]

/-- Every frame in the queue was in it before or is the one handed. -/
theorem mem_or_eq_of_mem_placeFrame {replaces : QueuedFrame → Bool} {frame q : QueuedFrame} {queue : List QueuedFrame}
    (hq : q ∈ placeFrame replaces frame queue) : q ∈ queue ∨ q = frame := by
  unfold placeFrame at hq
  split at hq
  · obtain ⟨p, hp, e⟩ := List.mem_map.mp hq
    split at e
    · exact .inr e.symm
    · exact .inl (e ▸ hp)
  · simpa using hq

/-- One frame handed to the send queue: it stands in the place of what it replaces, or at the tail (R153). -/
theorem placeFrame_eq_framesPlaced (replaces : Nat → QueuedFrame → Bool) (address : Nat) (frame : QueuedFrame)
    (queue : List QueuedFrame) :
    placeFrame (replaces address) frame queue = framesPlaced replaces [(address, frame)] queue := by
  have handed (q : QueuedFrame) :
      handedIn replaces [(address, frame)] q = if replaces address q then frame else q := by
    cases h : replaces address q <;> simp [handedIn, h]
  cases h : queue.any (replaces address) with
  | true => simp [placeFrame, framesPlaced, joining, handed, h]
  | false =>
    have stays : queue.map (handedIn replaces [(address, frame)]) = queue := by
      rw [List.map_congr_left (g := id) fun q m => ?_, List.map_id]
      have := List.any_eq_false.1 h q m
      simp [handed, this]
    simp [placeFrame, framesPlaced, joining, stays, h]

/-! ### Moves and checks -/

/-- What holds of a state and is kept by each act of a run of acts holds after the run. -/
theorem foldl_keeps {α : Type} {P : State → Prop} {f : State → α → State} (keep : ∀ t a, P t → P (f t a)) (l : List α)
    {s : State} (h : P s) : P (l.foldl f s) := by
  induction l generalizing s with
  | nil => exact h
  | cons a rest ih => exact ih (keep s a h)

/-- A bar after a MOVE goes out for one: that bar's outstanding move is the new one. -/
theorem State.bar_sendMove (s : State) (slot : Nat) (target : Int) (side : Side) (kind : MoveKind) (budget n : Nat) :
    (s.sendMove slot target side kind budget).bar n
      = if slot = n ∧ n < s.bars.length then
          { s.bar n with
            move := some
              { tag := s.nextTag slot, target, counts := targetCounts s.gauge (s.bar slot).trim target, side, kind } }
        else s.bar n := State.bar_onBar s slot _ n

/-- The start point kept for a bar is the one it was commanded from. -/
theorem State.keptStart_keepStart (s : State) (slot : Nat) (h : slot < s.moves.starts.length) :
    (s.keepStart slot).keptStart slot = (s.bar slot).startPoint := by
  simp [State.keptStart, h]

/-- What stands for a bar in a window is what its command there asked of it (R144, R146). -/
theorem State.standingTarget_keepStart (s : State) (slot : Nat) (e : Entry) (side : Side)
    (h : slot < s.moves.starts.length) : (s.keepStart slot).standingTarget slot e side = s.targetOf slot e side := by
  simp [State.standingTarget, State.targetOf, State.keptStart_keepStart s slot h, State.targetFrom, State.bar, State.profile]

/-- What a command to a bar does (R138): nothing where the bar has no target; its start point is kept, and one MOVE is sent for it
where it needs one. -/
theorem State.commandBar_cases (s : State) (w : Window) (heading : Dir) (angle slot : Nat) :
    s.commandBar w heading angle slot = s
      ∨ ∃ e target, s.commandable slot w heading = some e ∧ s.targetOf slot e (sideOf w heading) = some target
          ∧ s.commandBar w heading angle slot
            = if (s.bar slot).needsMove target then
                (s.keepStart slot).sendMove slot target (sideOf w heading) (commandKind (s.bar slot))
                  (s.budget (s.profile (s.bar slot).profile) w angle)
              else s.keepStart slot := by
  unfold State.commandBar
  split
  · exact .inl rfl
  · rename_i e he
    split
    · exact .inl rfl
    · rename_i target ht
      exact .inr ⟨e, target, he, ht, rfl⟩

/-- A bar commanded at once has its start point kept and at most one MOVE sent for it, or nothing happens (R141). -/
theorem State.commandAtOnce_cases (s : State) (slot : Nat) :
    s.commandAtOnce slot = s ∨ s.commandAtOnce slot = s.keepStart slot
      ∨ ∃ target side kind budget,
          s.commandAtOnce slot = (s.keepStart slot).sendMove slot target side kind budget := by
  unfold State.commandAtOnce
  dsimp only
  split
  · rename_i w _
    split
    · rcases State.commandBar_cases s w (s.tracker (s.bar slot).profile).heading s.shaft.angle slot with
        h | ⟨_, target, _, _, h⟩
      · exact .inl h
      · cases hn : (s.bar slot).needsMove target
        · exact .inr (.inl (by simpa [hn] using h))
        · exact .inr (.inr ⟨target, _, _, _, by simpa [hn] using h⟩)
    · exact .inl rfl
  · exact .inl rfl

/-- The leaving check of a bar fails it or does nothing (R144). -/
theorem State.checkBar_cases (s : State) (w : Window) (heading : Dir) (slot : Nat) :
    s.checkBar w heading slot = s ∨ s.checkBar w heading slot = s.failCheck slot := by
  unfold State.checkBar
  split
  · exact .inl rfl
  · split
    · exact .inl rfl
    · split
      · exact .inr rfl
      · exact .inl rfl

/-! ### The port -/

/-- A request answered without a change to anything else. -/
theorem State.hold_takeRequest (s : State) (n : Nat) (r : Reply) : (s.takeRequest n).hold r = s.answered n r := rfl

/-- A request on an idle port is performed whole and its reply held (R185, R186). -/
theorem State.request_idle {s : State} (h : s.portIdle) (length : Nat) (perform : State → State × Reply) :
    s.request length perform
      = (perform (s.takeRequest (length + 2))).1.hold (perform (s.takeRequest (length + 2))).2 := by
  simp [State.request, Port.performing, h]

/-- A request on a PERFORMING port is refused with BUSY (R185). -/
theorem State.request_performing {s : State} (h : s.port.inFlight ≠ none) (length : Nat)
    (perform : State → State × Reply) : s.request length perform = s.refuseBusy (length + 2) := by
  cases e : s.port.inFlight with
  | none => exact absurd e h
  | some v => simp [State.request, Port.performing, e]

end Sys2Proof.Machine
end

