-- ==== Sys2Proof/Laws/Exec.lean ====
section
/-! SUPPORT. Every command answers a next state: no meaning ends in a fault or a refusal. -/

namespace Sys2Proof.Machine

/-- Every request's meaning answers a next state. -/
theorem performRequest_next (i : Instr) (s : State) : ∃ t, performRequest i s = .next t := by
  cases i <;> exact ⟨_, rfl⟩

/-- UNKNOWN answers a next state, whatever its message is. -/
theorem execUnknown_next (message : List Byte) (s : State) : ∃ t, execUnknown message s = .next t := by
  unfold execUnknown
  split
  · exact ⟨_, rfl⟩
  · exact ⟨_, rfl⟩
  · exact ⟨_, rfl⟩
  · exact ⟨_, rfl⟩
  · exact performRequest_next _ s

/-- Every command answers a next state. -/
theorem exec_next (i : Instr) (s : State) : ∃ t, exec i s = .next t := by
  cases i with
  | unknown message => exact execUnknown_next message s
  | emergencyInputActive => simp only [exec, execEmergencyInputActive]; split <;> exact ⟨_, rfl⟩
  | sealEnd =>
    simp only [exec, execSealEnd]
    split
    · split <;> exact ⟨_, rfl⟩
    · exact ⟨_, rfl⟩
    · exact ⟨_, rfl⟩
  | busy message => cases message <;> exact ⟨_, rfl⟩
  | warmResetComplete e => simp only [exec, execWarmResetComplete]; split <;> exact ⟨_, rfl⟩
  | coldReset cause a b e => simp only [exec, execColdReset]; split <;> exact ⟨_, rfl⟩
  | _ => exact ⟨_, rfl⟩

/-- Every step answers a next state. -/
theorem step_next (s : State) : ∃ t, step s = .next t := by
  unfold step
  split
  · exact exec_next _ _
  · exact ⟨_, rfl⟩

end Sys2Proof.Machine
end

