-- ==== Sys2Proof/Laws/Table.lean ====
section
/-! SUPPORT. The laws of a table of keys and values: what each operation reads as afterwards, and that each keeps the canonical
form; the memory of the Pattern Store among them. -/

namespace Sys2Proof.Machine

variable {α : Type}

/-! ### The canonical form -/

theorem cellsRise_iff (l : List (Nat × α)) : cellsRise l = true ↔ l.Pairwise (fun a b => a.1 < b.1) := by
  induction l with
  | nil => simp [cellsRise]
  | cons c rest ih =>
    cases rest with
    | nil => simp [cellsRise]
    | cons d rest =>
      simp only [cellsRise, Bool.and_eq_true, decide_eq_true_eq, ih, List.pairwise_cons, List.mem_cons]
      constructor
      · rintro ⟨h, h1, h2⟩
        refine ⟨?_, h1, h2⟩
        rintro x (rfl | hx)
        · exact h
        · exact lt_trans h (h1 x hx)
      · rintro ⟨h, h1, h2⟩
        exact ⟨h d (Or.inl rfl), h1, h2⟩

theorem KMap.wf_iff (m : KMap α) : m.wf = true ↔ m.cells.Pairwise (fun a b => a.1 < b.1) := cellsRise_iff m.cells

@[simp] theorem KMap.wf_empty : (⟨[]⟩ : KMap α).wf = true := rfl

theorem insertCell_mem {k : Nat} {v : α} {l : List (Nat × α)} {c : Nat × α} (h : c ∈ insertCell k v l) :
    c = (k, v) ∨ c ∈ l := by
  induction l with
  | nil => simpa [insertCell] using h
  | cons d rest ih =>
    simp only [insertCell] at h
    split at h
    · simpa using h
    · split at h
      · rcases List.mem_cons.mp h with h | h
        · exact Or.inl h
        · exact Or.inr (List.mem_cons_of_mem _ h)
      · rcases List.mem_cons.mp h with h | h
        · exact Or.inr (h ▸ List.mem_cons_self)
        · rcases ih h with h | h
          · exact Or.inl h
          · exact Or.inr (List.mem_cons_of_mem _ h)

theorem insertCell_rises {k : Nat} {v : α} {l : List (Nat × α)} (h : l.Pairwise (fun a b => a.1 < b.1)) :
    (insertCell k v l).Pairwise (fun a b => a.1 < b.1) := by
  induction l with
  | nil => simp [insertCell]
  | cons d rest ih =>
    obtain ⟨hd, hr⟩ := List.pairwise_cons.mp h
    simp only [insertCell]
    split
    · rename_i hk
      refine List.pairwise_cons.mpr ⟨?_, h⟩
      intro c hc
      rcases List.mem_cons.mp hc with rfl | hc
      · exact hk
      · exact lt_trans hk (hd c hc)
    · split
      · rename_i _ hk
        exact List.pairwise_cons.mpr ⟨fun c hc => hk ▸ hd c hc, hr⟩
      · rename_i h1 h2
        refine List.pairwise_cons.mpr ⟨?_, ih hr⟩
        intro c hc
        rcases insertCell_mem hc with rfl | hc
        · change d.1 < k; omega
        · exact hd c hc

/-- Writing keeps the canonical form. -/
theorem KMap.wf_put {m : KMap α} (h : m.wf = true) (k : Nat) (v : α) : (m.put k v).wf = true := by
  rw [KMap.wf_iff] at *; exact insertCell_rises h

/-- Removing keeps the canonical form. -/
theorem KMap.wf_del {m : KMap α} (h : m.wf = true) (k : Nat) : (m.del k).wf = true := by
  rw [KMap.wf_iff] at *; exact h.filter _

/-- Keeping the cells that pass a test keeps the canonical form. -/
theorem KMap.wf_filter {m : KMap α} (h : m.wf = true) (p : Nat × α → Bool) : (⟨m.cells.filter p⟩ : KMap α).wf = true := by
  rw [KMap.wf_iff] at *; exact h.filter _

/-- Changing one value keeps the canonical form. -/
theorem KMap.wf_modify {m : KMap α} (h : m.wf = true) (k : Nat) (f : α → α) : (m.modify k f).wf = true := by
  rw [KMap.wf_iff] at *
  refine List.Pairwise.map _ ?_ h
  intro a b hab; split <;> split <;> exact hab

/-- Changing every value keeps the canonical form. -/
theorem KMap.wf_mapValues {m : KMap α} (h : m.wf = true) (f : Nat → α → α) : (m.mapValues f).wf = true := by
  rw [KMap.wf_iff] at *
  exact List.Pairwise.map _ (fun _ _ hab => hab) h

/-! ### Reading after an operation -/

theorem lookup_insertCell (k : Nat) (v : α) (l : List (Nat × α)) (j : Nat) :
    lookupCell j (insertCell k v l) = if j = k then some v else lookupCell j l := by
  induction l with
  | nil => simp only [insertCell, lookupCell, eq_comm]
  | cons d rest ih =>
    simp only [insertCell]
    split
    · simp only [lookupCell, eq_comm]
    · split
      · rename_i _ h
        by_cases hj : j = k
        · subst hj; simp [lookupCell]
        · have : ¬ k = j := fun e => hj e.symm
          have h2 : ¬ d.1 = j := fun e => hj (by omega)
          simp [lookupCell, hj, this, h2]
      · rename_i h1 h2
        simp only [lookupCell, ih]
        by_cases hj : d.1 = j
        · have : ¬ j = k := by omega
          simp [hj, this]
        · simp [hj]

/-- A read after a write: the value written under its key, and what stood there under any other. -/
@[simp] theorem KMap.find_put (m : KMap α) (k : Nat) (v : α) (j : Nat) :
    (m.put k v).find j = if j = k then some v else m.find j := lookup_insertCell k v m.cells j

theorem lookup_filter_ne (k : Nat) (l : List (Nat × α)) (j : Nat) :
    lookupCell j (l.filter (fun c => c.1 != k)) = if j = k then none else lookupCell j l := by
  induction l with
  | nil => simp [lookupCell]
  | cons d rest ih =>
    have e : lookupCell j (d :: rest) = if d.1 = j then some d.2 else lookupCell j rest := rfl
    rw [List.filter_cons, e]
    by_cases hd : d.1 = k
    · rw [if_neg (by simp [hd]), ih]
      by_cases hj : j = k
      · rw [if_pos hj, if_pos hj]
      · rw [if_neg hj, if_neg hj, if_neg (by omega)]
    · rw [if_pos (by simpa using hd)]
      change (if d.1 = j then some d.2 else lookupCell j (rest.filter (fun c => c.1 != k))) = _
      rw [ih]
      by_cases hj : d.1 = j
      · rw [if_pos hj, if_neg (by omega), if_pos hj]
      · rw [if_neg hj, if_neg hj]

/-- A read after a removal. -/
@[simp] theorem KMap.find_del (m : KMap α) (k j : Nat) : (m.del k).find j = if j = k then none else m.find j :=
  lookup_filter_ne k m.cells j

theorem lookup_map (g : Nat → α → α) (l : List (Nat × α)) (j : Nat) :
    lookupCell j (l.map fun c => (c.1, g c.1 c.2)) = (lookupCell j l).map (g j) := by
  induction l with
  | nil => simp [lookupCell]
  | cons d rest ih =>
    simp only [List.map_cons, lookupCell, ih]
    split
    · rename_i h; simp [h]
    · rfl

/-- A read after every value was changed. -/
@[simp] theorem KMap.find_mapValues (m : KMap α) (f : Nat → α → α) (j : Nat) :
    (m.mapValues f).find j = (m.find j).map (f j) := lookup_map f m.cells j

/-- A read after one value was changed. -/
@[simp] theorem KMap.find_modify (m : KMap α) (k : Nat) (f : α → α) (j : Nat) :
    (m.modify k f).find j = if j = k then (m.find j).map f else m.find j := by
  have h : m.modify k f = m.mapValues fun i a => if i = k then f a else a := by
    simp only [KMap.modify, KMap.mapValues, KMap.mk.injEq]
    apply List.map_congr_left
    intro c _; split <;> rfl
  rw [h, KMap.find_mapValues]
  split
  · rename_i h; subst h; simp
  · rename_i h; simp [h]

@[simp] theorem KMap.find_empty (j : Nat) : (⟨[]⟩ : KMap α).find j = none := rfl

/-- A table holds a value under a key exactly where the key is one of its keys. -/
theorem KMap.has_iff (m : KMap α) (k : Nat) : m.has k = true ↔ k ∈ m.keys := by
  simp only [KMap.has, KMap.find, KMap.keys]
  induction m.cells with
  | nil => simp [lookupCell]
  | cons d rest ih =>
    simp only [lookupCell, List.map_cons, List.mem_cons]
    split
    · rename_i h; simp [h]
    · rename_i h; rw [ih]; constructor
      · exact Or.inr
      · rintro (h' | h')
        · exact absurd h'.symm h
        · exact h'

/-! ### The memory of the Pattern Store -/

/-- The memory after a cold reset is in its canonical form. -/
theorem reset_memory_wf : State.reset.store.memory.wf = true := rfl

/-- A write keeps the memory's canonical form. -/
theorem Memory.wf_put {m : Memory} (h : m.wf = true) (a : Nat) (v : Step) : Memory.wf (m.put a v) = true :=
  KMap.wf_put h a v

end Sys2Proof.Machine
end

