-- ==== Sys2Proof/Laws/Store.lean ====
section
/-! SUPPORT. The Pattern Store's operations: every one keeps the memory's canonical form and the program table's. -/

namespace Sys2Proof.Machine

/-- The tables of the Pattern Store are in their canonical form. -/
abbrev PatternStore.wf (st : PatternStore) : Prop := st.programs.wf = true ∧ st.memory.wf = true

theorem PatternStore.writeStep_wf {st : PatternStore} (h : st.wf) (p : Program) (i : Nat) (v : Step) :
    (st.writeStep p i v).wf := by
  unfold PatternStore.writeStep
  split
  · exact ⟨h.1, Memory.wf_put h.2 _ _⟩
  · exact h

/-- Storing steps touches neither the free pages nor the program table. -/
@[simp] theorem PatternStore.writeStep_frame (st : PatternStore) (p : Program) (i : Nat) (v : Step) :
    (st.writeStep p i v).free = st.free ∧ (st.writeStep p i v).programs = st.programs := by
  unfold PatternStore.writeStep; split <;> exact ⟨rfl, rfl⟩

@[simp] theorem PatternStore.writeSteps_frame (st : PatternStore) (p : Program) (i : Nat) (steps : List Step) :
    (st.writeSteps p i steps).free = st.free ∧ (st.writeSteps p i steps).programs = st.programs := by
  induction steps generalizing st i with
  | nil => exact ⟨rfl, rfl⟩
  | cons v rest ih => simp [PatternStore.writeSteps, ih]

theorem PatternStore.writeSteps_wf {st : PatternStore} (h : st.wf) (p : Program) (i : Nat) (steps : List Step) :
    (st.writeSteps p i steps).wf := by
  induction steps generalizing st i with
  | nil => exact h
  | cons v rest ih => exact ih (PatternStore.writeStep_wf h p i v) (i + 1)

/-- What a write of one step leaves under every address. -/
theorem PatternStore.writeStep_find (st : PatternStore) (p : Program) (i : Nat) (v : Step) (a : Nat) :
    (st.writeStep p i v).memory.find a = if p.address i = some a then some v else st.memory.find a := by
  unfold PatternStore.writeStep
  split
  · rename_i b h
    have e : (p.address i = some a) ↔ a = b := by rw [h]; constructor <;> intro h' <;> simp_all
    simp only [KMap.find_put, e]
  · rename_i h; simp [h]

theorem PatternStore.append_wf {st : PatternStore} (h : st.wf) (n : Nat) (p : Program) (steps : List Step) :
    (st.append n p steps).wf := by
  have w := PatternStore.writeSteps_wf h p p.written steps
  exact ⟨KMap.wf_put w.1 _ _, w.2⟩

theorem PatternStore.create_wf {st : PatternStore} (h : st.wf) (n length : Nat) : (st.create n length).wf :=
  ⟨KMap.wf_put h.1 _ _, KMap.wf_filter h.2 _⟩

theorem PatternStore.retire_wf {st : PatternStore} (h : st.wf) (n : Nat) (p : Program) : (st.retire n p).wf :=
  ⟨KMap.wf_del h.1 _, h.2⟩

theorem State.sealProgram_wf {s : State} (h : s.store.wf) (n : Nat) (p : Program) (steps : List Step)
    (courseLength depth : Nat) : (s.sealProgram n p steps courseLength depth).store.wf := by
  have w := PatternStore.writeSteps_wf h p 0 steps
  exact ⟨KMap.wf_put w.1 _ _, w.2⟩

theorem State.onRefs_wf {s : State} (h : s.store.wf) (n : Nat) (f : Nat → Nat) : (s.onRefs n f).store.wf :=
  ⟨KMap.wf_modify h.1 _ _, h.2⟩

theorem State.recountRefs_wf {s : State} (h : s.store.wf) : s.recountRefs.store.wf := ⟨KMap.wf_mapValues h.1 _, h.2⟩

end Sys2Proof.Machine
end

