-- ==== Sys2Proof/Tests/Slice0.lean ====
section
/-! SUPPORT. Small tests of the model: the checks of WellFormed, worked examples of the manual (each names its section), and
for every statement with hypotheses a concrete state and operands that meet them, clause by clause. -/

namespace Sys2Proof.Tests

open Sys2Proof Sys2Proof.Machine

-- One theorem after another: a thread for each would need more memory than the check gives.
set_option Elab.async false

/-! ### The checks of WellFormed refuse what breaks them -/

theorem test_illFormed_noSuchSlot : illFormed (.retryExpiry 64) = some .noSuchSlot := by decide
theorem test_illFormed_emptyRead : illFormed (.read 0) = some .emptyRead := by decide
theorem test_illFormed_noRequest : illFormed (.busy [0]) = some .noRequest := by decide
theorem test_illFormed_knownMessage : illFormed (.unknown [16, 1, 5]) = some .knownMessage := by decide
theorem test_illFormed_tooManySteps : illFormed (.writeSteps 1 0 (List.replicate 51 ⟨1, 0, 0⟩)) = some .tooManySteps := by
  decide +kernel
theorem test_illFormed_wrongKind : illFormed (.done [9]) = some .wrongKind := by decide
theorem test_wellFormed_commands :
    wellFormed (.retryExpiry 63) = true ∧ wellFormed (.unknown [15, 0]) = true ∧ wellFormed (.done [10]) = true := by decide +kernel

/-! ### Worked examples -/

/-- Section 9.7: the MARKER with sequence 0 has the check byte 10. -/
theorem test_marker_check_byte : withCheck (markerBytes 0) = [1, 127, 0, 10] := by decide +kernel

/-- Section 8.6, gauge 18 and trim 350: positions 37, 1, 2 and 3 in counts, and back. -/
theorem test_target_counts :
    [37, 1, 2, 3].map (targetCounts 18 350) = [522461, 14461, 28572, 42683]
      ∧ [522461, 50000, -5000, -20000].map (countsToPosition 18 350) = [37, 4, 0, 0] := by decide

/-- Section 6.4, profile 0 at its cold values: the required times. -/
theorem test_required_times : [1, 4, 5, 6, 40].map coldProfile.requiredTime = [2850, 5299, 5878, 6400, 23400] := by
  decide +kernel

/-- Section 6.4: the window ceilings of a shog of 40 needle spaces, and of 1 before and after the cap. -/
theorem test_window_ceilings :
    windowCeiling 1200 320 23400 = 801 ∧ windowCeiling 1200 192 23400 = 480 ∧ windowCeiling 9999 192 2850 = 3947
      ∧ windowCeiling 1200 192 2850 = 1200 := by decide

/-- Program 12 as written (section 3.8). -/
def program12 : List Step := [.course 2 1, .loopOpen 3 0, .course 1 0, .course 3 4, .loopClose 0, .course 0 1]

/-- Program 12 sealed. -/
def sealed12 : List Step := [.course 2 1, .loopOpen 3 4, .course 1 0, .course 3 4, .loopClose 1, .course 0 1]

/-- Section 3.8: program 12 seals with course length 8 and depth 1. -/
theorem test_seal_program12 : sealSteps program12 = .success sealed12 8 1 := by decide

/-- Section 3.8: an empty loop fails at its CLOSE, and program 41 unfolds to 2,146,435,200 courses, too long with 129. -/
theorem test_seal_limits :
    sealSteps [.course 10 12, .loopOpen 5 0, .loopOpen 3 0, .loopClose 0, .course 10 10, .loopClose 0]
        = .structureFault .emptyLoop 3
      ∧ coursesOf [.loopOpen 4095 0, .loopOpen 4095 0, .loopOpen 128 0, .course 0 0, .loopClose 0, .loopClose 0,
          .loopClose 0] = 2146435200
      ∧ sealSteps [.loopOpen 4095 0, .loopOpen 4095 0, .loopOpen 129 0, .course 0 0, .loopClose 0, .loopClose 0,
          .loopClose 0] = .tooLong := by decide

/-- Section 4.3: the fourth course of program 12 and the steps around it. -/
theorem test_cursor_program12 :
    let c : Cursor := { program := 12, index := 2, course := 3, stack := [⟨1, 2, 3⟩] }
    placeCursor sealed12 12 3 = some c
      ∧ c.forward sealed12 8 = { program := 12, index := 3, course := 4, stack := [⟨1, 2, 3⟩] }
      ∧ c.reverse sealed12 8 = { program := 12, index := 3, course := 2, stack := [⟨1, 1, 3⟩] } := by decide

/-- Section 4.3: the wraps of program 12, forward from course 7 and back from course 0. -/
theorem test_cursor_wraps :
    let first : Cursor := { program := 12, index := 0, course := 0, stack := [] }
    let last : Cursor := { program := 12, index := 5, course := 7, stack := [] }
    last.forward sealed12 8 = first ∧ first.reverse sealed12 8 = last := by decide

/-- Program 40 sealed (section 4.4). -/
def sealed40 : List Step :=
  [.course 10 12, .loopOpen 5 7, .course 12 10, .loopOpen 3 6, .course 11 13, .course 13 11, .loopClose 3, .loopClose 1,
    .course 10 10]

/-- Section 4.4: program 40 placed at entry course 20, and the step that closes both loops. -/
theorem test_place_program40 :
    placeCursor sealed40 40 20 = some { program := 40, index := 4, course := 20, stack := [⟨1, 3, 5⟩, ⟨3, 3, 3⟩] }
      ∧ ({ program := 40, index := 5, course := 21, stack := [⟨1, 3, 5⟩, ⟨3, 3, 3⟩] } : Cursor).forward sealed40 37
        = { program := 40, index := 2, course := 22, stack := [⟨1, 4, 5⟩] } := by decide

/-- Section 4.5: with a mirror and an offset of 200, the pair (37, 36) becomes (163, 164). -/
theorem test_follow_pair : followPair 200 true (37, 36) = (163, 164) ∧ followPair (-2) false (1, 0) = (-1, -2) := by decide

/-- Section 7.5, the first row of the worked sequence: the least of S_cap, the terms and the horizon. -/
theorem test_speed_bound :
    let record (course ceiling : Nat) : CourseRecord := { course, ceiling, cause := .none, offending := none, entries := [] }
    ({ coldPlanner with
        current := record 5000 1200, queue := [record 5010 801, record 5025 0], horizon := 5032, sCap := 1000 } :
        Planner).speedBound 5000 40 = 1000
      ∧ ({ coldPlanner with current := record 5009 1200, queue := [record 5010 801, record 5025 0], horizon := 5041
                            sCap := 1000 } : Planner).speedBound 5009 40 = 640 := by decide

/-- Sections 12.3 and 12.4: messages written out byte by byte, and what they spell. -/
theorem test_messages :
    parseMessage [18, 2, 5, 12] = .request (.setAddress 5 12)
      ∧ parseMessage [20, 3, 5, 0xFF, 0xFE] = .request (.setTrim 5 (-2))
      ∧ parseMessage [51, 5, 2, 0, 0, 7, 0xF8] = .request (.commitSet 2 2040)
      ∧ parseMessage [33, 8, 12, 0, 4, 3, 0, 0, 0, 0] = .request (.writeSteps 12 4 [⟨3, 0, 0⟩])
      ∧ parseMessage [241, 0] = .request .queryStatus ∧ parseMessage [241] = .badLength
      ∧ parseMessage [0, 0, 0] = .readTransaction 3 ∧ parseMessage [200, 0] = .unknownCode := by decide

/-- Section 12.2: QUERY_STATUS right after reset answers COLD, DOWN and no frame. -/
theorem test_status_after_reset : State.reset.statusBody = [0, 0, 0] := by decide

/-! ### A state with something in every block -/

/-- The state a command leads to. -/
def after (i : Instr) (s : State) : State :=
  match exec i s with
  | .next t => t
  | .fault _ => s
  | .refused _ => s

/-- A bar in a state with a drive address. -/
def barIn (state : BarState) (address : Nat) : Bar := { coldBar with state, address }

/-- A bar that leads program 1. -/
def leadIn (state : BarState) (address : Nat) : Bar :=
  { barIn state address with
    assignment := .lead 1, cursor := some { program := 1, index := 0, course := 0, stack := [] }, position := 2 }

/-- An attempt whose third BIND has been sent. -/
def thirdBind : Attempt := { count := 3, timer := some 0, silentRaised := false }

/-- The edit that gives a bar LEAD of program 1. -/
def leadEdit : Edit := { assignment := .lead 1 0, limits := none }

/-- The frame is written and the ring is UP. Slots 0 and 1 are PARKED, 2 BINDING, 3 IDLE and pinned, 4 ENGAGED, 5 FAULTED and
6 REBINDING; program 1 is SEALED with one step and program 2 OPEN; set 0 is COMMITTED, set 1 OPEN. -/
def demo : State :=
  { State.reset with
    frame := some { gauge := 18, fitted := 0x7F, d := 40, sMax := 1200, tolerance := 20 }
    bars := [barIn .parked 0, barIn .parked 11, barIn .binding 12, { barIn .idle 13 with pinned := true },
        leadIn .engaged 14, leadIn .faulted 15, leadIn .rebinding 16] ++ List.replicate 57 coldBar
    store :=
      { free := List.range' 2 510
        programs := ⟨[(1, { length := 1, pages := [0], written := 1,
                            sealInfo := some { courseLength := 1, depth := 0, refs := 4 } }),
          (2, { length := 1, pages := [1], written := 0, sealInfo := none })]⟩
        memory := ⟨[(0, .course 2 2)]⟩ }
    changes :=
      { sets := [.committed ⟨[(3, leadEdit)]⟩ 5, .opened ⟨[(4, { assignment := .withdrawn, limits := none })]⟩, .free, .free]
        commitList := [0] }
    ring := { coldRing with state := .up, attempts := ⟨[(2, thirdBind), (6, thirdBind)]⟩ } }

/-- The demo state with one bar changed. -/
def demoBar (slot : Nat) (f : Bar → Bar) : State := demo.onBar slot f

/-- The demo state with the ring changed. -/
def demoRing (f : Ring → Ring) : State := demo.onRing f

/-- The demo state with an angle and an overrun, the angle found. -/
def demoAngle (angle overrun : Nat) (side : Dir) : State :=
  demo.onShaft fun t => { t with angle, overrun, overrunSide := side, angleFound := true }

/-- The demo state with the shaft moving and a course. -/
def demoCourse (state : ShaftState) (c : Nat) : State := demo.onShaft fun t => { t with state, c }

/-- The demo state with a request in flight. -/
def demoBusy (flight : InFlight) : State := demo.onPort fun p => { p with inFlight := some flight }

/-- The demo state with the outstanding move of a bar. -/
def demoMove (slot : Nat) (kind : MoveKind) : State :=
  demoBar slot fun b => { b with move := some { tag := 3, target := 2, counts := 28222, side := .post, kind } }

/-! ### Witnesses: for every statement with hypotheses, a state and operands that meet them, clause by clause at the ends of
their ranges -/

theorem witness_StepRunsFrontCommand :
    ({ demo with pending := [.frameSend, .read 1] } : State).pending = .frameSend :: [.read 1] ∧ demo.pending = [] := by
  decide +kernel

/-- The events of an empty queue at the limits of their timers, and one microsecond before. -/
theorem witness_StepRunsFrontCommand_due :
    let ring (f : Ring → Ring) : State := { demoRing f with frame := none }
    let entry := markerInTransit 0 0
    let timer (n : Nat) (r : Ring) : Ring := { r with attempts := ⟨[(2, { count := 1, timer := some n, silentRaised := false })]⟩ }
    let due (s : State) : List Instr := s.tick.pending
    let stall (state : ShaftState) (n : Nat) : State := { ring id with shaft := { demo.shaft with state, stall := n } }
    let lost (state : RingState) (n : Nat) : State := { ring fun r => { r with state, transit := [entry] } with now := n }
    [due (stall .forward 499998), due (stall .forward 499999), due (stall .stopped 499999)] = [[], [.stallTimerExpiry], []]
      ∧ [due (lost .up 998), due (lost .up 999), due (lost .training 999)] = [[], [.frameDeclaredLost], [.markerLost]]
      ∧ [due (ring fun r => { r with idle := 9998 }), due (ring fun r => { r with idle := 9999 })] = [[], [.idleTimerExpiry]]
      ∧ [due (ring (timer 99998)), due (ring (timer 99999))] = [[], [.retryExpiry 2]]
      ∧ [15, 16].map (fun n => due (ring fun r => { r with queue := [.unbind 11], transit := List.replicate n entry }))
        = [[.frameSend], []]
      ∧ due demo = [.planningStart] := by decide +kernel

/-- The demo state at rest or moving at a course, with every law of the planner and the Move Unit kept. -/
def demoAt (state : ShaftState) (c : Nat) : State :=
  let current := { demo.plan.current with course := c }
  let heading : Dir := if state = .reverse then .reverse else .forward
  { demo with
    shaft := { demo.shaft with state, c }
    plan := { demo.plan with current, horizon := c, planPosition := c + 1, suspended := decide (state = .reverse) }
    moves := { demo.moves with held := current, trackers := List.replicate 8 { region := .pre, heading } } }

/-- The demo state at course 1 and an angle, with slot 4 as LEAD of a pair and slot 3 leading in, under a held hold count. -/
def demoWindow (state : ShaftState) (angle : Nat) (a b u : Int) (hold : Nat) : State :=
  let s := demoAt state 1
  let current := { s.plan.current with entries :=
      [{ slot := 3, role := .leadin, pair := none, u := 6, dU := 6 }, { slot := 4, role := .lead, pair := some (a, b), u, dU := 2 }] }
  ({ s with
    shaft := { s.shaft with angle, hold, period := some 1024 }
    plan := { s.plan with current }
    moves := { s.moves with held := current, heldHold := hold } } : State).placeTrackers

/-- A profile as slow as may be, with windows as narrow as may be. -/
def slowProfile : Profile :=
  { tAcc := 20000, tNs := 5000, tSet := 5000, shogMax := 48, os := 16, oe := 48, us := 48, ue := 80 }

/-- The angle and the overrun after an ordinary step of the demo shaft, channels low: channel a turns it forward. -/
def stepped (ch : Channel) (angle overrun : Nat) (side : Dir) : Nat × Nat :=
  let t := (after (.ordinaryStep ch) (demoAngle angle overrun side)).shaft
  (t.angle, t.overrun)

theorem witness_OrdinaryStepMovesAngleOrOverrun :
    demo.alerts.records.length = 16
      ∧ stepped .a 0 0 .forward = (1, 0) ∧ stepped .a 1022 0 .reverse = (1023, 0)
      ∧ stepped .a 1023 0 .reverse = (1023, 1) ∧ stepped .a 1023 65535 .forward = (1023, 65535)
      ∧ stepped .b 1023 0 .forward = (1022, 0) ∧ stepped .b 1 0 .forward = (0, 0)
      ∧ stepped .b 0 0 .forward = (0, 1) ∧ stepped .b 0 65535 .reverse = (0, 65535)
      ∧ stepped .b 1023 1 .forward = (1023, 0) ∧ stepped .a 0 1 .reverse = (0, 0) := by decide +kernel

theorem witness_OrdinaryStep_slips :
    let pending (overrun : Nat) : Bool :=
      ((after (.ordinaryStep .a) (demoAngle 1023 overrun .forward)).alerts.record 11).pending
    pending 7 = false ∧ pending 8 = true ∧ pending 9 = false := by decide +kernel

/-- From low channels channel b is a reverse step and channel a a forward one: planning in flight is given up at the turn back
and taken up again at the turn forward. -/
theorem witness_OrdinaryStep_plan :
    let planning (state : ShaftState) (c : Nat) : State := (demoAt state c).onPlan fun p => { p with planning := !p.suspended }
    let plan (ch : Channel) (state : ShaftState) : Bool × Bool × Nat :=
      let p := (after (.ordinaryStep ch) (planning state 1)).plan
      (p.suspended, p.planning, p.layout.cursors.cells.length)
    stepDir demo.shaft.levelA demo.shaft.levelB .b = .reverse ∧ stepDir demo.shaft.levelA demo.shaft.levelB .a = .forward
      ∧ plan .b .stopped = (true, false, 0) ∧ plan .b .forward = (true, false, 0) ∧ plan .b .reverse = (true, false, 0)
      ∧ plan .a .reverse = (false, false, 3) ∧ plan .a .stopped = (false, true, 0) ∧ plan .a .forward = (false, true, 0) := by
  decide +kernel

/-- The demo state with its speed line. -/
def demoSpeed (sending : Option (List Byte)) (again : Bool) : State := { demo with speedLine := { sending, again } }

/-- The Shaft Tracker after a forward course entry. -/
theorem after_forwardCourseEntry_shaft (time : Nat) (s : State) :
    (after (.forwardCourseEntry time) s).shaft
      = ((((s.passUntil time).shaft.toggle
          (channelOf (s.passUntil time).shaft.levelA (s.passUntil time).shaft.levelB .forward)).stepped
          .forward).atBoundary .forward).countForward (s.passUntil time).now := by
  simp only [after, exec, execForwardCourseEntry]
  split <;> simp [State.beginStep]

theorem witness_ForwardEntryCountsCourses :
    let err (s : State) : Nat := s.shaft.boundaryError .forward
    demo.alerts.records.length = 16 ∧ demo.shaft.hold = 0 ∧ demo.speedLine.sending ≠ none
      ∧ (demoSpeed none false).speedLine.sending = none
      ∧ (demoCourse .forward 2147483646).shaft.c < 2147483647
      ∧ err (demoAngle 1015 0 .forward) = 8 ∧ err (demoAngle 1014 0 .forward) = 9 ∧ err (demoAngle 1023 9 .forward) = 9
      ∧ err (demoAngle 0 65535 .reverse) = 66558 ∧ (demoAngle 1014 0 .forward).shaft.angleFound = true := by decide +kernel

/-- The laws of the window statements. -/
def windowLaws (s : State) : Bool :=
  decide s.sizesLaw && decide s.trackersLaw && decide s.windowsLaw && decide s.addressLaw && decide s.rangesLaw

/-- The laws of the planner and the Move Unit between two steps. -/
def planLaws (s : State) : Bool := decide s.planLaw && decide s.heldLaw

/-- The laws of the bars and the change sets. -/
def setLaws (s : State) : Bool := decide s.linkLaw && decide s.commitLaw && decide s.assignmentLaw

/-- Forward over the edges of the windows 128..320 and 576..896 at period 1024, so that a budget is the angle left. -/
theorem witness_OrdinaryStepActsInTheWindows :
    let s (angle : Nat) (hold : Nat) : State := demoWindow .forward angle 2 7 9 hold
    let sent (angle next slot : Nat) : Option (Int × Side × Nat) :=
      ((s angle 0).stepSent .forward next slot).map fun m => (m.target, m.side, m.budget)
    windowLaws (s 127 0) = true ∧ windowLaws (s 127 1) = true
      ∧ sent 126 127 4 = none ∧ sent 127 128 4 = some (7, .between, 192) ∧ sent 127 128 3 = none
      ∧ sent 575 576 4 = some (9, .post, 320) ∧ sent 575 576 3 = some (6, .post, 320) ∧ sent 576 577 4 = none
      ∧ [318, 319, 895].map (fun angle => (s angle 0).stepLate .forward (angle + 1) 4) = [false, true, true]
      ∧ [319, 895].map (fun angle => (s angle 0).stepLate .forward (angle + 1) 3) = [false, true]
      ∧ ((s 127 1).stepSent .forward 128 4).isNone ∧ (s 895 1).stepLate .forward 896 4 = false
      ∧ (s 127 1).moves.heldHold ≠ 0 := by decide +kernel

/-- Back over the same edges, and a turn within a window. -/
theorem witness_OrdinaryStepActsInTheWindows_reverse :
    let s (state : ShaftState) (angle : Nat) : State := demoWindow state angle 3 7 9 0
    let sent (state : ShaftState) (angle slot : Nat) : Option (Int × Side × Nat) :=
      ((s state angle).stepSent .reverse (angle - 1) slot).map fun m => (m.target, m.side, m.budget)
    windowLaws (s .reverse 896) = true ∧ windowLaws (s .forward 200) = true
      ∧ sent .reverse 896 4 = some (7, .between, 0) ∧ sent .reverse 896 3 = none
      ∧ sent .reverse 320 4 = some (3, .pre, 0) ∧ sent .reverse 200 4 = none ∧ sent .forward 200 4 = some (3, .pre, 0)
      ∧ [577, 576, 128].map (fun angle => (s .reverse angle).stepLate .reverse (angle - 1) 4) = [false, true, true]
      ∧ (after (.ordinaryStep .b) (s .reverse 576)).bar 4 = { demo.bar 4 with state := .faulted } := by decide +kernel

/-- The demo state at course 1 and an angle under a record blocked by SHOG_LIMIT, whose overlap takes slot 4 from 2 to 60, with a
position of the bar and the start point of its last command. -/
def demoBlocked (angle : Nat) (position : Int) (start : Option Int) : State :=
  let s := demoWindow .forward angle 2 60 60 0
  let current := { s.plan.current with cause := .shogLimit, offending := some 4 }
  ({ s with
    plan := { s.plan with current }, moves := { s.moves with held := current, starts := s.moves.starts.set 4 start } }
    : State).onBar 4 fun b => { b with position }

/-- The overlap asks for 50, 48 from the start; the bar come to 50 passes, and one that stands at 49 is late (R146, log 37). -/
theorem witness_OrdinaryStepActsInTheWindows_blocked :
    let t := after (.ordinaryStep .a) (demoBlocked 127 2 none)
    let late (position : Int) (start : Option Int) : Bool := (demoBlocked 319 position start).stepLate .forward 320 4
    windowLaws (demoBlocked 127 2 none) = true ∧ windowLaws (demoBlocked 319 50 (some 2)) = true
      ∧ ((demoBlocked 127 2 none).stepSent .forward 128 4).map (·.target) = some 50
      ∧ t.moves.starts.getD 4 none = some 2 ∧ t.standingNow 4 = some 50
      ∧ late 50 (some 2) = false ∧ late 49 (some 2) = true ∧ late 50 none = true
      ∧ ((after (.ordinaryStep .a) (demoBlocked 319 50 (some 2))).bar 4).state = .engaged := by decide +kernel

/-- The demo state with a stall timer. -/
def demoStall (state : ShaftState) (stall : Nat) : State := demo.onShaft fun t => { t with state, stall }

theorem witness_ForwardEntryCountsCourses_time :
    demo.now = 0 ∧ (∀ kd ∈ demo.timers, 99 < kd.2) ∧ (demoStall .forward 499999).nextTimer = some (.stall, 1)
      ∧ (demoStall .stopped 499999).nextTimer ≠ some (.stall, 1)
      ∧ ((demoStall .forward 499999).passUntil 1).shaft.state = .stopped
      ∧ ((demoStall .forward 499998).passUntil 1).shaft.state = .forward := by decide +kernel

/-- The demo state with the record of course 1 in the queue. -/
def demoQueued (cause : Cause) : State :=
  demo.onPlan fun p => { p with
    queue := [{ course := 1, ceiling := 0, cause, offending := some 4, entries := [] }], horizon := 1, planPosition := 2 }

theorem witness_ForwardEntryMovesThePlanOn :
    let held (s : State) : State := (s.onShaft fun t => { t with hold := 1 }).onMoves fun m => { m with heldHold := 1 }
    windowLaws demo = true ∧ planLaws demo = true ∧ demo.plan.queue = []
      ∧ windowLaws (demoQueued .travel) = true ∧ planLaws (demoQueued .travel) = true ∧ (demoQueued .travel).plan.queue ≠ []
      ∧ (after (.forwardCourseEntry 0) demo).shaft.c ≠ demo.shaft.c
      ∧ (after (.forwardCourseEntry 0) (held demo)).shaft.c = demo.shaft.c
      ∧ planLaws (held demo) = true ∧ planLaws (demoAt .reverse 1) = true ∧ windowLaws (demoAt .reverse 1) = true
      ∧ (demoAt .reverse 1).plan.suspended = true := by
  simp only [after_forwardCourseEntry_shaft]
  decide +kernel

/-- A forward entry out of REVERSE that only takes the hold count down: C stays, and planning was suspended. -/
theorem witness_ForwardEntryMovesThePlanOn_held :
    let s := ((demoAt .reverse 1).onShaft fun t => { t with hold := 1 }).onMoves fun m => { m with heldHold := 1 }
    windowLaws s = true ∧ planLaws s = true ∧ s.plan.suspended = true
      ∧ (after (.forwardCourseEntry 0) s).shaft.c = s.shaft.c := by
  simp only [after_forwardCourseEntry_shaft]
  decide +kernel

/-- A bar that stands on both sides, one that is late in the overlap, one late in the underlap alone, and the windows a sweep from
an angle leaves and enters. -/
theorem witness_CourseEntriesSweepTheWindows :
    let s (state : ShaftState) (angle : Nat) (b u : Int) : State := demoWindow state angle 2 b u 0
    let t := s .forward 0 7 9
    let late (angle : Nat) (b u : Int) (slot : Nat) : Option Window := (s .forward angle b u).sweepLate .forward slot
    let sent (state : ShaftState) (angle : Nat) : Option (Int × Side × Nat) :=
      ((s state angle 7 9).sweepSent .forward (some 2048) 4).map fun m => (m.target, m.side, m.budget)
    windowLaws t = true ∧ planLaws t = true
      ∧ late 0 2 2 4 = none ∧ late 0 7 9 4 = some .overlap ∧ late 0 2 9 4 = some .underlap ∧ late 0 7 9 3 = some .underlap
      ∧ late 319 7 9 4 = some .overlap ∧ late 320 7 9 4 = some .underlap ∧ late 895 7 9 4 = some .underlap
      ∧ late 896 7 9 4 = none ∧ (∀ p ∈ t.profiles, p.ue ≤ (s .forward 896 7 9).shaft.angle)
      ∧ sent .forward 127 = some (7, .between, 384) ∧ sent .forward 128 = none ∧ sent .reverse 128 = some (7, .between, 192)
      ∧ sent .forward 575 = some (9, .post, 640) ∧ sent .forward 576 = none ∧ sent .forward 896 = none
      ∧ ((demoWindow .forward 0 2 7 9 1).sweepLate .forward 4).isNone := by decide +kernel

theorem witness_CourseEntriesSweepTheWindows_reverse :
    let s (angle : Nat) : State := demoWindow .reverse angle 3 7 9 0
    let late (angle slot : Nat) : Option Window := (s angle).sweepLate .reverse slot
    windowLaws (s 1023) = true ∧ planLaws (s 1023) = true ∧ (s 1023).namedAt 1 4 = false
      ∧ [896, 576, 575, 128, 127].map (late · 4) = [some .underlap, some .underlap, some .overlap, some .overlap, none]
      ∧ late 1023 3 = none ∧ ((s 896).sweepSent .reverse none 4).isSome = true
      ∧ ((s 895).sweepSent .reverse none 4).isNone = true ∧ ∀ p ∈ (s 127).profiles, (s 127).shaft.angle < p.os := by
  decide +kernel

theorem witness_ReverseEntryStopsAtTheFloor :
    let reversed := demoAt .reverse 0
    demo.alerts.records.length = 16 ∧ (demoAt .forward 1).planLaw ∧ (demoAt .forward 1).plan.floor < 1
      ∧ reversed.planLaw ∧ reversed.plan.floor = reversed.shaft.c ∧ reversed.plan.suspended = true
      ∧ (demoAt .forward 1).shaft.c = 1 ∧ (demoAt .forward 0).planLaw := by decide +kernel

/-- The boundary errors of a reverse entry at their bound, and the record of course 0 that it builds, blocked or not. -/
theorem witness_ReverseEntryStopsAtTheFloor_alerts :
    let err (angle overrun : Nat) (side : Dir) : Nat := (demoAngle angle overrun side).shaft.boundaryError .reverse
    let s (b : Nat) (p : Profile) : State :=
      { demoAt .forward 1 with
        store := { demo.store with memory := ⟨[(0, .course 0 b)]⟩ }, profiles := demo.profiles.set 0 p }
    let built (b : Nat) (p : Profile) : Cause := (after .reverseCourseEntry (s b p)).plan.current.cause
    [err 8 0 .forward, err 9 0 .forward, err 0 8 .reverse, err 0 9 .reverse, err 1023 1 .forward] = [8, 9, 8, 9, 1024]
      ∧ (demoAngle 9 0 .forward).shaft.angleFound = true ∧ (s 512 coldProfile).planLaw
      ∧ (s 512 coldProfile).alerts.records.length = 16
      ∧ [built 48 coldProfile, built 512 coldProfile, built 49 coldProfile, built 40 slowProfile]
        = [.none, .travel, .shogLimit, .timing] := by decide +kernel

/-- The demo state at course 1 with the piece counter COUNTING. -/
def demoPieces (count : Nat) : State :=
  { demoCourse .forward 1 with pieces := { state := .counting, preload := 2, count, pieces := 65535 } }

/-- The Shaft Tracker after a reverse course entry. -/
theorem after_reverseCourseEntry_shaft (s : State) :
    (after .reverseCourseEntry s).shaft
      = (((s.shaft.toggle (channelOf s.shaft.levelA s.shaft.levelB .reverse)).stepped .reverse).atBoundary
          .reverse).countReverse
          (s.beginStep (channelOf s.shaft.levelA s.shaft.levelB .reverse) .reverse).plan.floor := by
  simp only [after, exec, execReverseCourseEntry]
  split <;> split <;> simp [State.beginStep]

theorem witness_PieceCounterActsAtEntries :
    demo.pieces.state = .paused ∧ (demoPieces 1).pieces.state = .counting ∧ (demoPieces 1).alerts.records.length = 16
      ∧ (after (.forwardCourseEntry 0) (demoPieces 1)).shaft.c ≠ (demoPieces 1).shaft.c
      ∧ (after .reverseCourseEntry (demoPieces 1)).shaft.c ≠ (demoPieces 1).shaft.c
      ∧ (demoPieces 1).pieces.count < (demoPieces 1).pieces.preload
      ∧ (demoPieces 2).pieces.preload ≤ (demoPieces 2).pieces.count ∧ 1 < (demoPieces 2).pieces.count := by
  simp only [after_forwardCourseEntry_shaft, after_reverseCourseEntry_shaft]
  decide +kernel

theorem witness_KnitCursorsFollowTheCourse :
    demo.namedAt (after (.forwardCourseEntry 0) demo).shaft.c 4 = false
      ∧ (after (.forwardCourseEntry 0) demo).shaft.c ≠ demo.shaft.c ∧ (demo.bar 4).cursor ≠ none
      ∧ (after (.forwardCourseEntry 0) (demo.onShaft fun t => { t with hold := 1 })).shaft.c = demo.shaft.c
      ∧ (after .reverseCourseEntry (demoCourse .forward 1)).shaft.c ≠ (demoCourse .forward 1).shaft.c
      ∧ (after .reverseCourseEntry demo).shaft.c = demo.shaft.c := by
  simp only [after_forwardCourseEntry_shaft, after_reverseCourseEntry_shaft]
  decide +kernel

/-- The edit that withdraws a bar. -/
def withdrawEdit : Edit := { assignment := .withdrawn, limits := some (0, 511) }

/-- The demo state at course 4, one course before set 0 applies, with these edits in it. -/
def applying (edits : List (Nat × Edit)) : State :=
  { demoCourse .forward 4 with
    changes := { demo.changes with sets := demo.changes.sets.set 0 (.committed ⟨edits⟩ 5) } }

theorem witness_EntryOfEAppliesTheSet :
    let edits := [(2, leadEdit), (3, leadEdit), (4, withdrawEdit), (5, withdrawEdit), (6, leadEdit)]
    let others := [(2, withdrawEdit), (3, withdrawEdit), (4, leadEdit), (5, leadEdit), (6, withdrawEdit)]
    let s := applying edits
    windowLaws s = true ∧ windowLaws (applying others) = true ∧ s.shaft.hold = 0 ∧ s.shaft.c < 2147483647
      ∧ 0 < s.changes.sets.length ∧ s.changes.commitList = [0] ∧ 0 ∉ ([] : List Nat)
      ∧ s.changeSet 0 = .committed ⟨edits⟩ (s.shaft.c + 1) ∧ (applying others).changeSet 0 = .committed ⟨others⟩ 5
      ∧ (∀ l ∈ [edits, others], (⟨l⟩ : KMap Edit).wf = true ∧ ∀ slot ∈ (⟨l⟩ : KMap Edit).keys, slot < 64)
      ∧ [2, 3, 4, 5, 6].map (fun slot => (s.bar slot).state) = [.binding, .idle, .engaged, .faulted, .rebinding]
      ∧ s.sealOf 1 = some { courseLength := 1, depth := 0, refs := 4 } := by decide +kernel

/-- The lead-in of slot 3, the bar that set 0 engages: flagged before or not, found late by the sweep or not. -/
theorem witness_EntryOfEAppliesTheSet_leadIn :
    let s (u : Int) (flag : Bool) : State :=
      let held := { demo.moves.held with entries := [{ slot := 3, role := .leadin, pair := none, u, dU := 6 }] }
      ((applying [(3, leadEdit)]).onMoves fun m => { m with held }).onBar 3 fun b => { b with leadInLate := flag }
    let found (u : Int) : Bool := ((s u false).sweepLate .forward 3).isSome
    windowLaws (s 6 true) = true ∧ ((s 6 true).bar 3).state = .idle
      ∧ ((s 6 true).bar 3).leadInLate = true ∧ ((s 6 false).bar 3).leadInLate = false ∧ found 6 = true ∧ found 0 = false
      ∧ ((s 0 false).passUntil 0).shaft.c = 4 := by decide +kernel

/-- Sets 0 and 1 with one E, and a set 1 left on the list that names slots of set 0. -/
theorem witness_EntryOfEAppliesTheSet_two :
    let first := [(3, leadEdit), (4, withdrawEdit)]
    let second := [(4, leadEdit)]
    let s (e : Nat) : State :=
      { demoCourse .forward 4 with
        changes := { sets := [.committed ⟨first⟩ 5, .committed ⟨second⟩ e, .free, .free], commitList := [0, 1] } }
    windowLaws (s 5) = true ∧ (s 5).shaft.hold = 0
      ∧ (s 5).changes.commitList = [0, 1] ∧ (0 : Nat) ≠ 1 ∧ (s 5).changeSet 0 = .committed ⟨first⟩ ((s 5).shaft.c + 1)
      ∧ (s 5).changeSet 1 = .committed ⟨second⟩ 5 ∧ (⟨first⟩ : KMap Edit).wf = true ∧ (⟨second⟩ : KMap Edit).wf = true
      ∧ (∀ slot ∈ (⟨first⟩ : KMap Edit).keys ++ (⟨second⟩ : KMap Edit).keys, slot < 64)
      ∧ windowLaws (s 6) = true ∧ (∀ m ∈ [1], (s 6).effectiveCourse m ≠ 5)
      ∧ ([1].any fun m => ((s 6).committedEdits m).has 4) = true := by decide +kernel

theorem witness_SkippedCountsAndTheStall :
    let stopped (state : ShaftState) : ShaftState := (after .stallTimerExpiry (demoCourse state 0)).shaft.state
    demo.speedLaw ∧ (demoCourse .forward 0).speedLaw ∧ (demoCourse .reverse 0).speedLaw
      ∧ stopped .stopped = .stopped ∧ stopped .forward = .stopped ∧ stopped .reverse = .stopped := by decide +kernel

theorem witness_EmergencyAndSpeedLine :
    demo.alerts.records.length = 16 ∧ demo.alerts.emergencyActive = false
      ∧ (after .emergencyInputActive demo).alerts.emergencyActive = true
      ∧ (demoSpeed none false).speedLine.sending = none
      ∧ (after .speedMessageEnd (demoSpeed (some [9]) false)).speedLine.sending = none
      ∧ (after .speedMessageEnd (demoSpeed (some [9]) true)).speedLine.sending = some [0, 0, 0] := by decide +kernel

/-- The demo state with the planning of course 1 in flight and program 1 knitting from position a to position b. -/
def demoPlanned (p : Profile) (a b : Nat) : State :=
  { demo with
    plan := { demo.plan with planning := true, layout := demo.knitLayout }
    profiles := demo.profiles.set 0 p
    store := { demo.store with memory := ⟨[(0, .course a b)]⟩ } }

theorem witness_PlanningBeginsAndEnds :
    let planned (s : State) : Cause := (after .planningEnd s).plan.queue.getLast?.elim .none (·.cause)
    let long := demo.onPlan fun p => { p with horizon := 2147483646, queue := List.replicate 31 p.current }
    long.frame ≠ none ∧ long.plan.suspended = false ∧ long.plan.planning = false ∧ long.plan.queue.length < 32
      ∧ long.plan.horizon + 1 ≤ 2147483647 ∧ (after .planningStart long).plan.planning = true
      ∧ (after .planningStart (demo.onPlan fun p => { p with horizon := 2147483647 })).plan.planning = false
      ∧ (after .planningStart (demo.onPlan fun p => { p with queue := List.replicate 32 p.current })).plan.planning = false
      ∧ (after .planningStart State.reset).plan.planning = false
      ∧ demo.alerts.records.length = 16
      ∧ planned (demoPlanned coldProfile 0 48) = .none ∧ planned (demoPlanned coldProfile 0 512) = .travel
      ∧ planned (demoPlanned coldProfile 0 49) = .shogLimit ∧ planned (demoPlanned slowProfile 0 40) = .timing := by
  decide +kernel

/-- An advance to course 5: set 0 leads slot 3 in and withdraws slot 4, set 1 withdraws slot 3 and leads slot 4 in again, with
limits; the cursor of slot 5 takes a step. -/
theorem witness_PlanningBeginsAndEnds_advance :
    let first := [(3, leadEdit), (4, withdrawEdit)]
    let second := [(3, withdrawEdit), (4, leadEdit)]
    let s (sets : List Nat) : State :=
      { demo with changes := { sets := [.committed ⟨first⟩ 5, .committed ⟨second⟩ 5, .free, .free], commitList := sets } }
    let cursors (sets : List Nat) : List (Option Nat) :=
      [3, 4, 5, 2].map fun slot =>
        (((s sets).advance 4 ((s sets).knitLayout)).cursors.find slot).map (·.course)
    demo.knitLayout.config.length = 64 ∧ (∀ n ∈ [0, 1], ((s [0, 1]).committedEdits n).wf = true) ∧ demo.bars.length = 64
      ∧ cursors [] = [none, some 0, some 0, none] ∧ cursors [0] = [some 0, none, some 0, none]
      ∧ cursors [0, 1] = [none, some 0, some 0, none] ∧ demo.frame ≠ none ∧ State.reset.frame = none := by decide +kernel

theorem witness_BlockingAndCeilingOfARecord :
    let cause (p : Profile) (a b : Nat) : Cause × Option Nat :=
      ((demoPlanned p a b).plannedRecord.cause, (demoPlanned p a b).plannedRecord.offending)
    let now := demo.knitLayout
    let later (c : BarConfig) (assignment : Assignment) : BarConfig := { c with assignment }
    let config := (now.config.modify 3 (later · (.lead 1))).modify 5 (later · .none)
    let next : Layout := { config, cursors := now.cursors.put 3 ⟨1, 0, 0, []⟩ }
    let r := demo.formRecord 4 now next
    cause coldProfile 0 48 = (.none, none) ∧ cause coldProfile 0 512 = (.travel, some 4)
      ∧ cause coldProfile 0 49 = (.shogLimit, some 4) ∧ cause slowProfile 0 40 = (.timing, some 4)
      ∧ [3, 4, 5, 2].map (fun n => (now.engages n, next.engages n)) = [(false, true), (true, true), (true, false), (false, false)]
      ∧ demo.pairIn now 4 = some (2, 2) ∧ demo.pairIn next 4 = some (2, 2) ∧ demo.pairIn next 3 = some (2, 2)
      ∧ r.entries.map (fun e => (e.slot, e.role, e.pair, e.u, e.dU))
        = [(3, .leadin, none, 2, 2), (4, .lead, some (2, 2), 2, 0), (5, .lead, some (2, 2), 2, 0),
          (6, .lead, some (2, 2), 2, 0)] := by decide +kernel

theorem witness_WindowCeilingIsTheGreatestSpeed :
    (0 : Nat) < 1 ∧ windowCeiling 1200 320 0 = 1200 ∧ windowCeiling 1200 1 58594 = 0 ∧ windowCeiling 1200 1 58593 = 1
      ∧ ({ slot := 0, role := .leadin, pair := none, u := 0, dU := 1 } : Entry).pair = none
      ∧ ({ slot := 0, role := .lead, pair := some (0, 511), u := 0, dU := 511 } : Entry).pair = some (0, 511) := by
  decide +kernel

theorem witness_MoveTimeIsExact :
    let p : Profile := { coldProfile with tAcc := 20000, tNs := 50 }
    let q : Profile := { coldProfile with tAcc := 100, tNs := 5000 }
    100 ≤ q.tAcc ∧ p.tAcc ≤ 20000 ∧ 50 ≤ p.tNs ∧ q.tNs ≤ 5000 ∧ p.tAcc ≤ 400 * p.tNs ∧ 399 * p.tNs < p.tAcc
      ∧ p.moveTime 400 = 40000 ∧ p.moveTime 1 = 2000 ∧ p.moveTime 2 = 2829 ∧ q.moveTime 511 = 2555100
      ∧ ({ p with tSet := 0, shogMax := 255 } : Profile).moveTime 399 = p.moveTime 399 := by decide +kernel

theorem witness_CountConversions :
    targetCounts 5 2000 511 = 25960800 ∧ targetCounts 5 (-2000) 0 = -2000 ∧ countsToPosition 5 2000 25960800 = 511
      ∧ targetCounts 40 2000 511 = 3246850 ∧ countsToPosition 40 (-2000) 10000000 = 511 ∧ countsToPosition 40 0 (-1) = 0
      ∧ 63 < demo.bars.length ∧ ((demo.sendMove 63 511 .pre .pattern 0).bar 63).move ≠ none := by decide +kernel

theorem witness_CountConversions_trim : ∃ t : State, exec (.setTrim 4 2000) demo = .next t := exec_next _ _

theorem witness_CheckByteCatchesAChangedByte :
    (127 : Byte) ≠ 126 ∧ frameSound ([1] ++ 127 :: [0, 10]) = true ∧ frameSound ([1] ++ 126 :: [0, 10]) = false := by
  decide +kernel

theorem witness_RingInputDiscards :
    let s := demoRing fun r => { r with transit := [markerInTransit 7 0] }
    let old : State := { s with now := 1001 }
    let down := demoRing fun r => { r with state := .training }
    demo.speedLaw ∧ frameSound [] = false ∧ frameSound [9, 12, 2, 0, 0, 0, 0, 1] = false
      ∧ down.speedLaw ∧ down.ring.state ≠ .up ∧ demo.slotOfAddress 0 = none ∧ demo.slotOfAddress 255 = none
      ∧ s.speedLaw ∧ partFrameKind (withCheck (markerBytes 8)) = true ∧ partFrameKind (withCheck (markerBytes 7)) = true
      ∧ (∀ x ∈ s.ring.transit, x.bytes ≠ withCheck (markerBytes 8))
      ∧ old.speedLaw ∧ ∀ x ∈ old.ring.transit, x.sentAt + 1000 < old.now := by decide +kernel

theorem witness_DoneSettlesItsMove :
    let settled (slot : Nat) (kind : MoveKind) (counts : BitVec 32) : BarState × Int × Bool :=
      let b := (after (.done (doneFrame (BitVec.ofNat 8 (slot + 10)) 3 counts)) (demoMove slot kind)).bar slot
      (b.state, b.position, b.move.isNone)
    (demoMove 4 .pattern).speedLaw ∧ (demoMove 4 .pattern).bars.length = 64
      ∧ (demoMove 4 .pattern).slotOfAddress (14 : Byte).toNat = some 4 ∧ (demoMove 5 .recovery).ring.state = .up
      ∧ (∃ m, ((demoMove 4 .pattern).bar 4).move = some m ∧ m.tag = (3 : Byte).toNat ∧ m.tag ≠ (4 : Byte).toNat)
      ∧ settled 4 .pattern 28242 = (.engaged, 2, true) ∧ settled 4 .pattern 28243 = (.faulted, 2, true)
      ∧ settled 5 .recovery 28202 = (.engaged, 2, true) ∧ settled 5 .recovery 28201 = (.faulted, 2, true)
      ∧ settled 3 .leadin 42333 = (.idle, 3, true) := by
  refine ⟨by decide +kernel, by decide +kernel, by decide +kernel, by decide +kernel, ⟨_, rfl, rfl, by decide⟩, ?_⟩
  decide +kernel

/-- The recovery of slot 5 ends at position 2 with the tracker of its profile in PRE, in a window that asks for 4, and in one
that asks for 2. -/
theorem witness_DoneSettlesItsMove_atOnce :
    let s (region : Region) (b : Int) : State :=
      let held := { demo.moves.held with entries := [{ slot := 5, role := .lead, pair := some (2, b), u := 2, dU := 2 }] }
      (demoMove 5 .recovery).onMoves fun m => { m with held, trackers := List.replicate 8 ⟨region, .forward⟩ }
    let sent (region : Region) (b : Int) : Option (Int × Nat) :=
      let t := after (.done (doneFrame 15 3 28222)) (s region b)
      (t.bar 5).move.map fun m => (m.target, t.ring.queue.length)
    (s .overlap 4).bars.length = 64 ∧ (s .overlap 4).ring.state = .up ∧ (s .overlap 4).slotOfAddress 15 = some 5
      ∧ (s .overlap 4).moves.nextTags.length = 64 ∧ ((s .overlap 4).bar 5).state = .faulted
      ∧ sent .pre 4 = none ∧ sent .overlap 4 = some (4, 1) ∧ sent .overlap 2 = none := by decide +kernel

/-- The move of slot 4 to the target that stands for it in the overlap, and its DONE. -/
theorem witness_DoneSettlesItsMove_standing :
    let s := (demoBlocked 200 2 (some 2)).onBar 4 fun b =>
      { b with move := some { tag := 3, target := 50, counts := 705555, side := .between, kind := .pattern } }
    let t := after (.done (doneFrame 14 3 705575)) s
    s.trackersLaw ∧ s.standingNow 4 = some 50 ∧ s.slotOfAddress 14 = some 4 ∧ s.ring.state = .up ∧ s.bars.length = 64
      ∧ (t.bar 4).position = 50 ∧ (t.bar 4).state = .engaged ∧ t.stepLate .forward 320 4 = false := by decide +kernel

theorem witness_BindAckAndFaultFrames :
    let bound (address carried : Byte) : List BarState :=
      [2, 6].map fun slot => ((after (.bindAck (bindAckFrame address carried 28222)) demo).bar slot).state
    demo.bars.length = 64 ∧ demo.alerts.records.length = 16 ∧ demo.ring.state = .up ∧ demo.speedLaw
      ∧ [12, 16, 13, 14, 15].map demo.slotOfAddress = [some 2, some 6, some 3, some 4, some 5]
      ∧ (3 : Byte).toNat ≠ 2 ∧ bound 12 3 = [.binding, .rebinding]
      ∧ bound 12 2 = [.idle, .rebinding] ∧ bound 16 6 = [.binding, .faulted] := by decide +kernel

/-- The BIND_ACK of slot 2 in the underlap window of its profile, heading FORWARD or not, with its lead-in at position 6. -/
theorem witness_BindAckAndFaultFrames_atOnce :
    let s (d : Dir) (hold : Nat) : State :=
      let held := { demo.moves.held with entries := [{ slot := 2, role := .leadin, pair := none, u := 6, dU := 2 }] }
      (demoRing fun r => { r with queue := [.bind 12 2, .bind 16 6] }).onMoves fun m =>
        { m with held, heldHold := hold, trackers := List.replicate 8 ⟨.underlap, d⟩ }
    let queue (d : Dir) (hold : Nat) : List QueuedFrame :=
      (after (.bindAck (bindAckFrame 12 2 28222)) (s d hold)).ring.queue
    (s .forward 0).slotOfAddress 12 = some 2 ∧ (s .forward 0).moves.nextTags.length = 64
      ∧ ((s .forward 0).bar 2).state = .binding ∧ ((s .forward 0).bar 6).state = .rebinding
      ∧ queue .forward 0 = [.bind 16 6, .move 12 0 84667 0] ∧ queue .reverse 0 = [.bind 16 6]
      ∧ queue .forward 1 = [.bind 16 6] := by decide +kernel

theorem witness_BindAckAndFaultFrames_fault :
    let faulted (address : Byte) (slot : Nat) : BarState × Nat :=
      let b := (after (.fault (faultFrame address 255)) demo).bar slot
      (b.state, b.driveFault)
    demo.bars.length = 64 ∧ demo.alerts.records.length = 16 ∧ demo.ring.state = .up
      ∧ demo.slotOfAddress (14 : Byte).toNat = some 4 ∧ faulted 14 4 = (.faulted, 255) ∧ faulted 12 2 = (.binding, 255) := by
  decide +kernel

/-- The demo state as the ring trains, with a marker run. -/
def demoTraining (run : Nat) : State :=
  { demoRing fun r => { r with state := .training, markerRun := run, transit := [markerInTransit 255 0], nextSeq := 0 } with
    bars := demo.bars.map fun b => if b.state.isBound then { b with state := .parked } else b }

theorem witness_MarkersTrainTheRing :
    let home (run : Nat) : RingState × Nat :=
      let t := after (.markerReturn (withCheck (markerBytes 255))) (demoTraining run)
      (t.ring.state, t.ring.markerRun)
    (demoTraining 0).speedLaw ∧ (demoTraining 3).speedLaw ∧ (demoTraining 3).bars.length = 64
      ∧ (demoTraining 3).addressLaw ∧ (demoTraining 3).ring.state = .training
      ∧ (demoTraining 3).ring.transit = [markerInTransit 255 0]
      ∧ (demoTraining 3).now ≤ 0 + 1000 ∧ 0 + 1000 < ({ demoTraining 3 with now := 1001 } : State).now
      ∧ home 0 = (.training, 1) ∧ home 2 = (.training, 3) ∧ home 3 = (.up, 4)
      ∧ (after .markerLost (demoTraining 3)).ring.markerRun = 0 ∧ demo.ring.state ≠ .training := by decide +kernel

/-- Entering UP: the BIND of slot 2 takes the place of the UNBIND for its address, that of slot 6 joins the tail. -/
theorem witness_MarkersTrainTheRing_queue :
    let s := (demoTraining 3).onRing fun r => { r with queue := [.unbind 11, .unbind 12, .unbind 20] }
    s.speedLaw ∧ s.addressLaw ∧ s.bars.length = 64 ∧ s.ring.markerRun = 3
      ∧ (after (.markerReturn (withCheck (markerBytes 255))) s).ring.queue
        = [.unbind 11, .bind 12 2, .unbind 20, .bind 16 6] := by decide +kernel

/-- The demo state with frames in transit and losses. -/
def demoTransit (frames losses : Nat) : State :=
  demoRing fun r => { r with transit := (List.range frames).map fun n => markerInTransit (BitVec.ofNat 8 n) 0, losses }

theorem witness_FramesComeHomeOrAreLost :
    let s := demoTransit 16 0
    s.speedLaw ∧ s.ring.state = .up ∧ s.now ≤ 0 + 1000
      ∧ s.ring.transit = s.ring.transit.take 15 ++ markerInTransit 15 0 :: []
      ∧ (∀ y ∈ s.ring.transit.take 15, y.bytes ≠ withCheck (markerBytes 15) ∨ y.sentAt + 1000 < s.now)
      ∧ frameSound (withCheck (markerBytes 15)) = true ∧ partFrameKind (withCheck (markerBytes 15)) = true
      ∧ (demoTransit 1 0).ring.losses = 0 ∧ (demoTransit 0 0).speedLaw ∧ (demoTransit 0 0).ring.transit = [] := by
  decide +kernel

theorem witness_RingLeavesUp :
    let s := demoTransit 1 1
    let t := demoRing fun r => { r with state := .training }
    s.bars.length = 64 ∧ s.alerts.records.length = 16 ∧ s.ring.state = .up ∧ s.ring.transit ≠ [] ∧ s.ring.losses = 1
      ∧ s.portIdle ∧ s.frame ≠ none ∧ t.speedLaw ∧ t.ring.state = .training ∧ State.reset.portIdle
      ∧ State.reset.frame = none ∧ (after .frameDeclaredLost s).ring.state = .training
      ∧ (after .retrain s).ring.state = .training := by decide +kernel

theorem witness_FrameSendServesTheQueue :
    let sent (q : QueuedFrame) : Nat × List QueuedFrame :=
      let s := demoRing fun r =>
        { r with transit := List.replicate 15 (markerInTransit 0 0), nextSeq := 255, queue := [q, .marker] }
      let t := after .frameSend s
      (t.ring.transit.length, t.ring.queue)
    [QueuedFrame.marker, .bind 12 2, .unbind 11, .move 14 3 28222 0].map sent = List.replicate 4 (16, [.marker])
      ∧ (demoTransit 16 0).ring.transit.length = 16 ∧ demo.ring.queue = [] ∧ (demoTraining 0).ring.state ≠ .up := by
  decide +kernel

/-- The demo state with the attempt of slot 2. -/
def demoAttempt (count : Nat) (timer : Option Nat) (silentRaised : Bool) : State :=
  demoRing fun r => { r with attempts := ⟨[(2, { count, timer, silentRaised })]⟩ }

theorem witness_IdleAndRetryTimers :
    let silent (s : State) : Bool := ((after (.retryExpiry 2) s).alerts.record 12).pending
    demo.alerts.records.length = 16 ∧ demo.ring.state = .up ∧ (demoTraining 0).ring.state ≠ .up
      ∧ demo.ring.attempts.find 3 = none ∧ (demoAttempt 3 none false).ring.attempts.find 2 = some ⟨3, none, false⟩
      ∧ (demoAttempt 3 (some 0) false).ring.attempts.find 2 = some ⟨3, some 0, false⟩
      ∧ silent (demoAttempt 2 (some 0) false) = false ∧ silent (demoAttempt 3 (some 0) false) = true
      ∧ silent (demoAttempt 255 (some 0) true) = false := by decide +kernel

theorem witness_BindAndPark :
    let n (slot : Byte) : BarState := (demo.bar slot.toNat).state
    let alone := demoBar 2 fun b => { b with pinned := true }
    demo.bars.length = 64 ∧ demo.frame ≠ none ∧ demo.portIdle ∧ demo.speedLaw ∧ demo.ring.state = .up
      ∧ n 1 = .parked ∧ (demo.bar 1).address ≠ 0 ∧ (∀ d ∈ demo.bars, d.state.isBoundSide = true → d.address ≠ 11)
      ∧ State.reset.portIdle ∧ State.reset.frame = none ∧ n 0 = .parked ∧ (demo.bar 0).address = 0 ∧ n 63 = .unfitted ∧ n 64 = .unfitted ∧ n 255 = .unfitted
      ∧ (let s := demoBar 1 fun b => { b with address := 14 }
         s.speedLaw ∧ ∃ d ∈ s.bars, d.state.isBoundSide = true ∧ d.address = (s.bar 1).address)
      ∧ n 2 = .binding ∧ (demo.bar 2).pinned = false ∧ alone.speedLaw ∧ (alone.bar 2).pinned = true
      ∧ ((demoBar 3 fun b => { b with pinned := false }).bar 3).state = .idle
      ∧ (demoBar 3 fun b => { b with pinned := false }).speedLaw
      ∧ n 3 = .idle ∧ (demo.bar 3).pinned = true ∧ [4, 5, 6].map n = [.engaged, .faulted, .rebinding]
      ∧ (demoTraining 0).frame ≠ none ∧ (demoTraining 0).speedLaw ∧ (demoTraining 0).ring.state ≠ .up
      ∧ ((demoTraining 0).bar 1).state = .parked ∧ ((demoTraining 0).bar 2).state = .binding := by decide +kernel

/-- A BIND still queued, with nothing else for its address, gives its place to the UNBIND. -/
theorem witness_BindAndPark_place :
    let pre := [QueuedFrame.bind 16 6, .marker]
    let post := [QueuedFrame.unbind 11, .move 14 3 0 0]
    let s := demoRing fun r => { r with queue := pre ++ .bind 12 2 :: post }
    s.portIdle ∧ s.speedLaw ∧ (s.bar 2).state = .binding ∧ (s.bar 2).pinned = false ∧ (s.bar 2).address = 12
      ∧ (∀ q ∈ pre ++ post, q.isControlFor 12 = false ∧ q.isMoveFor 12 = false ∧ q.isBindOf 2 = false)
      ∧ (after (.park 2) s).ring.queue = pre ++ .unbind 12 :: post := by decide +kernel

/-- PARK while the frame is unwritten, and of a slot that is not fitted. -/
theorem witness_BindAndPark_unfitted :
    let answered (s : State) (slot : Byte) : Option Status := (after (.park slot) s).port.held.map (·.reply.status)
    State.reset.portIdle ∧ State.reset.frame = none ∧ State.reset.bars.length = 64 ∧ State.reset.linkLaw
      ∧ [0, 63, 64, 255].map (answered State.reset) = List.replicate 4 (some .badSlot)
      ∧ (demo.bar 7).state = .unfitted ∧ [7, 255].map (answered demo) = List.replicate 2 (some .badSlot) := by decide +kernel

theorem witness_SetAddressOfAParkedBar :
    demo.bars.length = 64 ∧ demo.portIdle ∧ demo.speedLaw ∧ demo.assignmentLaw ∧ 3 ∈ slots ∧ (demo.bar 3).pinned = true
      ∧ (demo.bar (0 : Byte).toNat).state = .parked ∧ (126 : Byte).toNat ≤ 126 ∧ 127 ≤ (127 : Byte).toNat
      ∧ (demo.bar (4 : Byte).toNat).state ≠ .parked ∧ (demo.bar (4 : Byte).toNat).state ≠ .unfitted
      ∧ (demo.bar (64 : Byte).toNat).state = .unfitted
      ∧ ((after (.setAddress 0 126) demo).bar 0).address = 126 ∧ ((after (.setAddress 0 127) demo).bar 0).address = 0
      ∧ ((after (.setAddress 1 0) demo).bar 1).address = 0 := by decide +kernel

theorem witness_BarFieldsAreSet :
    let free := demoBar 3 fun b => { b with pinned := false }
    demo.bars.length = 64 ∧ demo.portIdle ∧ demo.speedLaw ∧ free.speedLaw
      ∧ [0, 4, 3].map (fun slot => (demo.bar slot).state) = [.parked, .engaged, .idle] ∧ (free.bar 3).state = .idle
      ∧ (demo.bar 0).pinned = false ∧ (demo.bar 3).pinned = true ∧ (free.bar 3).pinned = false
      ∧ [0x7FFF, 2000, 0xF830, 0x8000].map (fun trim => ((after (.setTrim 4 trim) demo).bar 4).trim) = [2000, 2000, -2000, -2000]
      ∧ [(511, 511), (0, 0), (0, 512), (1, 0)].map
          (fun (low, high) => decide ((after (.setLimits 0 low high) demo).bar 0 = demo.bar 0)) = [false, false, true, true]
      ∧ [0, 7, 8].map (fun p => ((after (.setBarProfile 3 p) free).bar 3).state) = [.idle, .binding, .idle]
      ∧ ((after (.setBarProfile 0 7) demo).bar 0).profile = 7 ∧ (demo.bar 0).profile = (0 : Byte).toNat := by
  decide +kernel

/-- The fields of an unfitted slot, whatever the values. -/
theorem witness_BarFieldsAreSet_unfitted :
    let answered (i : Instr) : Option Status := (after i demo).port.held.map (·.reply.status)
    (demo.bar 7).state = .unfitted ∧ (demo.bar 64).state = .unfitted
      ∧ [.setTrim 7 0, .setTrim 64 0x7FFF, .setLimits 7 0 511, .setLimits 64 1 0, .setBarProfile 7 0, .setBarProfile 64 8].map answered
        = List.replicate 6 (some .badSlot) := by decide +kernel

/-- The demo state with an entry of slot 5 in the held record, at an angle in PRE, with a position and a move of the bar. -/
def demoHeld (cause : Cause) (u : Int) (position : Int) : State :=
  let held := { demo.moves.held with cause, entries := [{ slot := 5, role := .lead, pair := some (2, 4), u, dU := 0 }] }
  (demoBar 5 fun b => { b with position }).onMoves fun m => { m with held }

theorem witness_RecoverReturnsAFaultedBar :
    let s := demoHeld .none 511 2
    let atRest (s : State) : Bool := s.shaft.state = .stopped && s.moves.heldHold = 0
    let recovered (s : State) : BarState × Bool :=
      let b := (after (.recover 5) s).bar 5
      (b.state, b.move.isSome)
    s.bars.length = 64 ∧ s.alerts.records.length = 16 ∧ s.portIdle ∧ s.speedLaw ∧ (s.bar 5).state = .faulted
      ∧ atRest s = true ∧ (s.tracker (s.bar 5).profile).region.side = some .pre
      ∧ (∃ e x, s.moves.held.entryOf 5 = some e ∧ e.sidePosition .pre = some x)
      ∧ (s.bar 5).move = none ∧ (s.bar 5).position = 2 ∧ (demoHeld .none 511 3).speedLaw
      ∧ recovered s = (.engaged, false) ∧ recovered (demoHeld .none 511 3) = (.faulted, true)
      ∧ (demo.bar 64).state = .unfitted ∧ (demo.bar 4).state ≠ .faulted
      ∧ atRest (s.onMoves fun m => { m with heldHold := 1 }) = false ∧ atRest (demoCourse .forward 0) = false
      ∧ ((s.onMoves fun m => { m with trackers := List.replicate 8 ⟨.overlap, .forward⟩ }).tracker 0).region = .overlap
      ∧ ((s.onMoves fun m => { m with trackers := List.replicate 8 ⟨.underlap, .forward⟩ }).tracker 0).region
        = .underlap := by
  refine ⟨by decide +kernel, by decide +kernel, by decide +kernel, by decide +kernel, by decide +kernel, by decide +kernel,
    by decide +kernel, ⟨_, _, rfl, rfl⟩, ?_⟩
  decide +kernel

/-- The store law of a state whose programs hold pages 0 and 1 and whose free pages are the others. -/
theorem storeLaw_of_pages (s : State)
    (p : (s.store.programs.cells.flatMap fun c => c.2.pages) = [0, 1]) (free : s.store.free = List.range' 2 510)
    (programs : s.store.programs.wf = true) (memory : s.store.memory.wf = true) : s.storeLaw := by
  have e : [0, 1] ++ List.range' 2 510 = List.range Config.pageCount := by decide +kernel
  refine ⟨?_, by rw [free]; exact List.pairwise_lt_range', programs, memory⟩
  rw [free, p, ← e]
  exact List.perm_append_comm

/-- The demo state with other programs 1 and 2 and a course at the start of pages 0 and 1. -/
def demoPrograms (one two : Program) : State :=
  { demo with store := { demo.store with
      programs := ⟨[(1, one), (2, two)]⟩, memory := ⟨[(0, .course 2 2), (256, .course 511 0)]⟩ } }

/-- Program 1 without references. -/
def unled : Program := { length := 1, pages := [0], written := 1, sealInfo := some { courseLength := 1, depth := 0, refs := 0 } }

/-- Program 2 written whole. -/
def written2 : Program := { length := 1, pages := [1], written := 1, sealInfo := none }

theorem demoPrograms_storeLaw : (demoPrograms unled written2).storeLaw :=
  storeLaw_of_pages _ (by decide +kernel) rfl (by decide +kernel) (by decide +kernel)

theorem demo_storeLaw : demo.storeLaw :=
  storeLaw_of_pages _ (by decide +kernel) rfl (by decide +kernel) (by decide +kernel)

theorem witness_ProgramsAreCreatedWrittenAndRetired :
    let s := demoPrograms unled written2
    demo.portIdle ∧ demo.storeLaw ∧ s.portIdle ∧ s.storeLaw
      ∧ [3, 255].map demo.store.programs.find = [none, none]
      ∧ (1 ≤ (1 : BitVec 16).toNat ∧ (16384 : BitVec 16).toNat ≤ 16384 ∧ pagesFor 16384 ≤ demo.store.free.length)
      ∧ (∃ p, demo.store.programs.find 2 = some p ∧ p.sealInfo = none ∧ p.pages.length = pagesFor p.length
          ∧ (0 : BitVec 16).toNat = p.written ∧ p.written + [StepBytes.mk 1 511 0].length ≤ p.length)
      ∧ [StepBytes.mk 1 511 0].map readStep = [Step.course 511 0].map some
      ∧ (∃ p, demo.store.programs.find 1 = some p ∧ ∃ info, p.sealInfo = some info ∧ 0 < info.refs)
      ∧ s.store.programs.find 1 = some unled ∧ s.store.programs.find 2 = some written2
      ∧ ((after (.writeSteps 2 0 [⟨1, 511, 0⟩]) demo).store.programs.find 2).any (·.written == 1) = true
      ∧ [1, 2].map (fun n => ((after (.retireProgram n) s).store.programs.find n.toNat).isNone) = [true, true] := by
  refine ⟨rfl, demo_storeLaw, rfl, demoPrograms_storeLaw, by decide +kernel, by decide +kernel,
    ⟨_, rfl, by decide +kernel⟩, by decide +kernel, ⟨_, rfl, _, rfl, by decide +kernel⟩, ?_⟩
  decide +kernel

/-- The refusals of the program requests, at the ends of what they refuse. -/
theorem witness_ProgramsAreCreatedWrittenAndRetired_refusals :
    let full := demoPrograms unled written2
    let answered (s : State) (i : Instr) : Option (Status × List Byte) :=
      (after i s).port.held.map fun h => (h.reply.status, h.reply.body)
    let crowded : State := { demo with store := { demo.store with free := [2, 3] } }
    let course : StepBytes := ⟨1, 511, 0⟩
    full.storeLaw ∧ full.portIdle ∧ crowded.store.programs.find 3 = none ∧ crowded.store.free.length < pagesFor 513
      ∧ [0, 16385].map (fun n => answered demo (.createProgram 3 n)) = [some (.badValue, []), some (.badValue, [])]
      ∧ [512, 513].map (fun n => (answered crowded (.createProgram 3 n)).map (·.1)) = [some .ok, some .noSpace]
      ∧ answered demo (.createProgram 1 1) = some (.exists_, []) ∧ answered demo (.writeSteps 1 0 [course]) = some (.badState, [])
      ∧ answered demo (.writeSteps 3 0 [course]) = some (.notFound, []) ∧ answered demo (.writeSteps 0 0 []) = some (.badValue, [])
      ∧ answered demo (.writeSteps 2 0 []) = some (.badValue, []) ∧ answered demo (.writeSteps 2 1 [course]) = some (.order, [0, 0])
      ∧ answered demo (.writeSteps 2 0 [course, course]) = some (.badValue, [])
      ∧ [⟨1, 512, 0⟩, ⟨2, 1, 0⟩, ⟨2, 4096, 0⟩, ⟨3, 1, 0⟩, ⟨4, 0, 0⟩].map (fun b => answered demo (.writeSteps 2 0 [b]))
        = List.replicate 5 (some (.badValue, [0, 0])) := by
  refine ⟨demoPrograms_storeLaw, ?_⟩
  decide +kernel

/-- The demo state with program 2 written whole and its seal in flight. -/
def demoSealing (two : Program) (second : Step) : State :=
  { demoPrograms unled two with
    store := { (demoPrograms unled two).store with
      memory := ⟨[(0, .course 2 2), (256, .course 511 0), (257, second)]⟩ }
    port := { demo.port with inFlight := some (.sealing 2) } }

/-- Program 2 with its two steps written. -/
def two2 : Program := { length := 2, pages := [1], written := 2, sealInfo := none }

theorem witness_SealRunsToItsEnd :
    let s := demoPrograms unled written2
    let ends (second : Step) : SealEnd := sealSteps ((demoSealing two2 second).store.stepsOf two2)
    s.portIdle ∧ s.store.programs.find 1 = some unled ∧ s.store.programs.find 2 = some written2
      ∧ (demo.store.programs.find 2).any (fun p => p.sealInfo == none && p.written != p.length) = true
      ∧ (after (.sealProgram 2) s).port.inFlight = some (.sealing 2)
      ∧ (demoSealing two2 (.course 0 0)).port.inFlight = some (.sealing 2)
      ∧ (demoSealing two2 (.course 0 0)).store.programs.find 2 = some two2
      ∧ ends (.course 0 0) = .success [.course 511 0, .course 0 0] 2 0
      ∧ ends (.loopClose 0) = .structureFault .unmatchedClose 1
      ∧ (demoSealing two2 (.course 0 0)).programsLaw ∧ ∀ n, demo.port.inFlight ≠ some (.sealing n) := by
  refine ⟨rfl, by decide +kernel, by decide +kernel, by decide +kernel, by decide +kernel, rfl, by decide +kernel,
    by decide +kernel, by decide +kernel, by decide +kernel, fun n h => ?_⟩
  cases h

/-- Seven steps that unfold to too many courses (section 3.8, program 41 with 129 in its inner loop). -/
def long2 : List Step :=
  [.loopOpen 4095 0, .loopOpen 4095 0, .loopOpen 129 0, .course 0 0, .loopClose 0, .loopClose 0, .loopClose 0]

theorem witness_SealRunsToItsEnd_laws :
    (demoSealing two2 (.course 0 0)).storeLaw
      ∧ (let p : Program := { length := 7, pages := [1], written := 7, sealInfo := none }
         let cells := (List.range 7).zip long2 |>.map fun c => (256 + c.1, c.2)
         let s := { demoSealing p (.course 0 0) with store := { (demoSealing p (.course 0 0)).store with memory := ⟨cells⟩ } }
         sealSteps (s.store.stepsOf p) = .tooLong) :=
  ⟨storeLaw_of_pages _ (by decide +kernel) rfl (by decide +kernel) (by decide +kernel),
    by decide +kernel⟩

/-- The seal's failures: five loops deep, a CLOSE too many, a loop that holds none though its outer one does, the oldest OPEN left
open, no step at all, one course too many; and a run whose loops are closed. -/
theorem witness_SealPairsEveryLoop_faults :
    let course : Step := .course 1 1
    let opened : Step := .loopOpen 2 0
    let closed : Step := .loopClose 0
    let faults (steps : List Step) : List (Option ScanFault) := (List.range steps.length).map (faultAt steps)
    let clean (steps : List Step) : Bool := (faults steps).all (·.isNone)
    faults [opened, opened, opened, opened, opened] = [none, none, none, none, some .tooDeep]
      ∧ faults [opened, course, closed, closed] = [none, none, none, some .unmatchedClose]
      ∧ faults [opened, course, opened, closed] = [none, none, none, some .emptyLoop]
      ∧ faults [opened, opened, course, closed, closed] = [none, none, none, none, none]
      ∧ clean [opened, course, closed, opened, course, opened] = true
      ∧ sealSteps [opened, course, closed, opened, course, opened] = .structureFault .unclosedOpen 3
      ∧ nestBefore [opened, course, closed, opened, course, opened] 6 = 2
      ∧ sealSteps [] = .structureFault .noCourse 0 ∧ nestBefore [] 0 = 0
      ∧ clean long2 = true ∧ nestBefore long2 7 = 0 ∧ 2147483647 < coursesOf long2
      ∧ clean program12 = true ∧ coursesOf program12 ≤ 2147483647 ∧ closedRun program12 ∧ closedRun []
      ∧ program12 = [.course 2 1] ++ .loopOpen 3 0 :: [.course 1 0, .course 3 4] ++ .loopClose 0 :: [.course 0 1]
      ∧ closedRun [.course 1 0, .course 3 4] := by decide +kernel

theorem witness_SealPairsEveryLoop_and_CursorsWalkTheProgram :
    (∀ v ∈ program12, v.passesInRange = true) ∧ sealSteps program12 = .success sealed12 8 1
      ∧ (∀ v ∈ [Step.loopOpen 2 0, .loopOpen 4095 0], v.passesInRange = true) ∧ program12 ≠ [] := by decide +kernel

theorem witness_QueriesAnswerAndChangeNothing :
    demo.portIdle ∧ demo.fittedSlot (6 : Byte).toNat = true ∧ (demo.store.programs.find (1 : Byte).toNat).isSome = true
      ∧ (0 : BitVec 16).toNat + (1 : Byte).toNat ≤ 1 ∧ (3 : Byte).toNat ≤ 3 ∧ (7 : Byte).toNat ≤ 7 ∧ (63 : Byte).toNat ≤ 63
      ∧ (demo.store.programs.find 1).any (·.written == 1) = true
      ∧ (demo.recordOf (0 : BitVec 32).toNat).isSome = true ∧ demo.fittedSlot (7 : Byte).toNat = false
      ∧ demo.plan.horizon < (1 : BitVec 32).toNat ∧ (0 : BitVec 32).toNat < (demoAt .forward 1).shaft.c ∧ (demoAt .forward 1).portIdle
      ∧ 1 < (0 : BitVec 16).toNat + (2 : Byte).toNat ∧ 32 < (33 : Byte).toNat ∧ 4 ≤ (4 : Byte).toNat ∧ 8 ≤ (8 : Byte).toNat := by decide +kernel

/-- A profile in use and one that is not, a record of more entries than a page, and the kinds by urgency. -/
theorem witness_QueriesAnswerAndChangeNothing_bodies :
    let profile (n : Byte) : Option (List Byte) := (after (.queryProfile n) demo).port.held.map (·.reply.body.drop 15)
    let entry (slot : Nat) : Entry := { slot, role := .lead, pair := some (2, 2), u := 2, dU := 0 }
    let paged (n : Nat) : State := demo.onPlan fun p => { p with current := { p.current with entries := (List.range n).map entry } }
    let rest (n : Nat) (first : Byte) : Option (List Byte) :=
      (after (.queryCourse 0 first) (paged n)).port.held.map fun h => h.reply.body.drop (10 + 15 * 16)
    let alerts := { demo.alerts with records := [3, 12, 9, 8].foldl (fun l k => l.set k { clearAlert with pending := true }) demo.alerts.records }
    ((demo.bar 3).state ≠ .unfitted ∧ (demo.bar 3).profile = 0 ∧ (demo.bar 3).pinned = true)
      ∧ profile 0 = some [1, 1, 3] ∧ profile 7 = some [0, 0]
      ∧ (paged 17).recordOf 0 = some (paged 17).plan.current ∧ demo.planLaw
      ∧ rest 16 0 = some [0] ∧ rest 17 0 = some [1, 16] ∧ rest 17 1 = some [0]
      ∧ (∀ level ∈ alerts.levels, level ≤ 15)
      ∧ alerts.urgencyOrder = [3, 8, 9, 12, 0, 1, 2, 4, 5, 6, 7, 10, 11, 13, 14, 15] := by decide +kernel

/-- The attempt items of a ring that is UP: slot 2's timer runs, slot 6's BIND is still queued (log 20). -/
theorem test_queryRing_attempts :
    let s := demoRing fun r =>
      { r with attempts := ⟨[(2, thirdBind), (6, { count := 3, timer := none, silentRaised := true })]⟩, queue := [.bind 16 6] }
    (after .queryRing s).port.held.map (fun h => h.reply.body.drop 6) = some [2, 2, 3, 1, 0, 6, 3, 0, 1] := by decide +kernel

theorem witness_SetsOpenDropAndDiscard :
    demo.portIdle ∧ demo.changes.sets.length = 4 ∧ demo.changeSet (2 : Byte).toNat = .free
      ∧ demo.changeSet (3 : Byte).toNat = .free ∧ demo.changeSet 1 = .opened ⟨[(4, { assignment := .withdrawn, limits := none })]⟩
      ∧ demo.changeSet 0 = .committed ⟨[(3, leadEdit)]⟩ 5 ∧ 4 ≤ (4 : Byte).toNat ∧ (63 : Byte).toNat ≤ 63
      ∧ 64 ≤ (64 : Byte).toNat ∧ (after (.dropEdit 1 4) demo).changeSet 1 = .opened ⟨[]⟩
      ∧ (after (.openSet 3) demo).changeSet 3 = .opened ⟨[]⟩ ∧ (after (.discardSet 1) demo).changeSet 1 = .free := by
  decide +kernel

theorem witness_AddEditStoresOneEditASlot :
    let lead : EditBytes := ⟨1, 255, 2147483646, 0, 0, 0, 0, 0, 0⟩
    let follow (offset : BitVec 16) (mirror : Byte) : EditBytes := ⟨2, 0, 0, 63, offset, mirror, 1, 511, 0⟩
    let withdrawn (limits : Byte) (low : BitVec 16) : EditBytes := ⟨3, 0, 0, 0, 0, 0, limits, low, 511⟩
    let added (b : EditBytes) : Option Edit := (after (.addEdit 1 0 b) demo).changeSet 1 |>.edits |>.find 0
    demo.portIdle ∧ demo.changes.sets.length = 4 ∧ demo.fittedSlot (0 : Byte).toNat = true ∧ demo.fittedSlot 64 = false
      ∧ demo.changeSet 1 = .opened ⟨[(4, { assignment := .withdrawn, limits := none })]⟩ ∧ demo.changeSet 2 = .free
      ∧ demo.changeSet 0 = .committed ⟨[(3, leadEdit)]⟩ 5
      ∧ added lead = some { assignment := .lead 255 2147483646, limits := none }
      ∧ added { lead with program := 0 } = none ∧ added { lead with entryCourse := 2147483647 } = none
      ∧ added (follow 511 1) = some { assignment := .follow 63 511 true, limits := some (511, 0) }
      ∧ added (follow 0xFE01 0) = some { assignment := .follow 63 (-511) false, limits := some (511, 0) }
      ∧ added (follow 0xFE00 0) = none ∧ added (follow 0 2) = none ∧ added { follow 0 0 with leadSlot := 64 } = none
      ∧ added (withdrawn 1 511) = some { assignment := .withdrawn, limits := some (511, 511) }
      ∧ added (withdrawn 1 512) = none ∧ added (withdrawn 2 0) = none ∧ added { lead with kind := 4 } = none := by
  decide +kernel

/-- The demo state with other edits in set 1, an E of set 0, a course and a horizon. -/
def demoCommit (state : ShaftState) (edits : List (Nat × Edit)) (e horizon : Nat) : State :=
  { (demoCourse state 0).onPlan fun p => { p with horizon } with
    changes := { demo.changes with sets := [.committed ⟨[(3, leadEdit)]⟩ e, .opened ⟨edits⟩, .free, .free] } }

theorem witness_CommitJudgesAndTakesASet :
    let edits := [(4, withdrawEdit)]
    let s := demoCommit .forward edits 5 6
    let committed (t : State) (e : BitVec 32) : Option Nat :=
      match (after (.commitSet 1 e) t).changeSet 1 with
      | .committed _ e => some e
      | .opened _ => none
      | .free => none
    s.portIdle ∧ s.changes.sets.length = 4 ∧ s.bars.length = 64 ∧ s.changeSet 1 = .opened ⟨edits⟩
      ∧ (⟨edits⟩ : KMap Edit).wf = true ∧ (∀ k ∈ (⟨edits⟩ : KMap Edit).keys, k < 64)
      ∧ 2147483647 < (2147483648 : BitVec 32).toNat ∧ s.configFault ⟨edits⟩ = none ∧ s.greatestE = 5 ∧ s.plan.f = 7
      ∧ ((demoCommit .stopped [(0, leadEdit)] 5 0).configFault ⟨[(0, leadEdit)]⟩).isSome = true
      ∧ [4, 5, 7, 8, 0].map (committed s) = [none, none, none, some 8, some 8]
      ∧ [4, 5].map (committed (demoCommit .stopped edits 5 6)) = [none, some 5]
      ∧ committed (demoCommit .forward edits 5 2147483646) 0 = none
      ∧ committed (demoCommit .forward edits 5 2147483645) 2147483647 = some 2147483647
      ∧ committed (demoCommit .forward edits 5 0) 0 = some 5 := by decide +kernel

/-- The five checks of R85, each failing first at slot 3 or at a follower. -/
theorem witness_CommitJudgesAndTakesASet_checks :
    let answered (edits : List (Nat × Edit)) : Option (Status × List Byte) :=
      (after (.commitSet 1 0) (demoCommit .forward edits 5 6)).port.held.map fun h => (h.reply.status, h.reply.body)
    let lead (program entry : Nat) : Edit := { assignment := .lead program entry, limits := none }
    let follow (leader : Nat) : Edit := { assignment := .follow leader 0 false, limits := none }
    answered [(0, leadEdit), (3, lead 9 0)] = some (.badState, [0])
      ∧ answered [(3, lead 2 0), (4, lead 1 1)] = some (.notFound, [3]) ∧ answered [(3, lead 1 1)] = some (.badValue, [3])
      ∧ answered [(3, follow 3)] = some (.leadInvalid, [3]) ∧ answered [(3, follow 2)] = some (.leadInvalid, [3])
      ∧ (answered [(3, follow 4)]).map (·.1) = some .ok
      ∧ answered [(3, { assignment := .withdrawn, limits := some (1, 0) })] = some (.badValue, [3]) := by decide +kernel

/-- At rest at course 0 with the planning of course 1 in flight, and these sets. -/
def demoReplan (sets : List ChangeSet) (commitList : List Nat) : State :=
  { (demoAt .stopped 0).onPlan fun p => { p with planning := true } with changes := { sets, commitList } }

/-- A commit and a cancel at F replan; a set above 3, a FREE and a COMMITTED one are refused. -/
theorem witness_CommitAndCancel_replan :
    let unset : ChangeSet := .free
    let s := demoReplan [unset, .opened ⟨[(4, withdrawEdit)]⟩, unset, unset] []
    let u := demoReplan [.committed ⟨[(4, withdrawEdit)]⟩ 1, unset, unset, unset] [0]
    let answered (i : Instr) : Option Status := (after i s).port.held.map (·.reply.status)
    s.portIdle ∧ windowLaws s = true ∧ planLaws s = true ∧ s.shaft.state = .stopped ∧ s.plan.f = 2
      ∧ (after (.commitSet 1 0) s).plan.planning = false
      ∧ (after (.commitSet 1 0) s).moves.held.entries.map (·.slot) = [4, 5, 6]
      ∧ u.portIdle ∧ windowLaws u = true ∧ planLaws u = true ∧ u.commitLaw ∧ u.plan.f = 2
      ∧ (after (.cancelSet 0) u).plan.planning = false
      ∧ [.commitSet 4 0, .commitSet 0 0, .cancelSet 4, .cancelSet 1].map answered
        = [some .badValue, some .badState, some .badValue, some .badState] := by decide +kernel

/-- The angle condition at the us of 576 of a named slot, and at the us of 300 of slot 5, which follows it. -/
theorem witness_CommitAndCancel_angle :
    let profiles := demo.profiles.set 1 { coldProfile with oe := 200, us := 300 }
    let follow (b : Bar) : Bar := { b with assignment := .follow 4 0 false, cursor := none, profile := 1 }
    let edits : List (Nat × Edit) := [(4, leadEdit)]
    let s (follows : Bool) (angle : Nat) (sets : List ChangeSet) (commitList : List Nat) : State :=
      let t := demoReplan sets commitList
      { (if follows then t.onBar 5 follow else t) with profiles, shaft := { t.shaft with angle } }
    let committed (follows : Bool) (angle : Nat) : Nat :=
      (after (.commitSet 1 0) (s follows angle [.free, .opened ⟨edits⟩, .free, .free] [])).effectiveCourse 1
    let cancelled (follows : Bool) (angle : Nat) : Bool :=
      (after (.cancelSet 0) (s follows angle [.committed ⟨edits⟩ 1, .free, .free, .free] [0])).changes.commitList.isEmpty
    (s true 300 [.committed ⟨edits⟩ 1, .free, .free, .free] [0]).commitLaw
      ∧ (∀ m ∈ [0], ((s true 300 [.committed ⟨edits⟩ 1, .free, .free, .free] [0]).committedEdits m).wf = true)
      ∧ [575, 576].map (committed false) = [1, 2] ∧ [299, 300].map (committed true) = [1, 2]
      ∧ [575, 576].map (cancelled false) = [true, false] ∧ [299, 300].map (cancelled true) = [true, false] := by decide +kernel

theorem witness_CancelReopensTheCascade :
    let cancelled (s : State) : Bool := (after (.cancelSet 0) s).changes.commitList = []
    let s (state : ShaftState) (horizon : Nat) : State := demoCommit state [] 5 horizon
    demo.commitLaw ∧ demo.portIdle ∧ demo.changes.sets.length = 4 ∧ demo.bars.length = 64
      ∧ demo.changeSet 0 = .committed ⟨[(3, leadEdit)]⟩ 5 ∧ (∀ k ∈ (demo.committedEdits 0).keys, k < 64)
      ∧ (∀ state ∈ [ShaftState.stopped, .forward], ∀ h ∈ [3, 4], (s state h).commitLaw)
      ∧ cancelled (s .forward 3) = true ∧ cancelled (s .forward 4) = false ∧ cancelled (s .stopped 5) = true
      ∧ (demo.changeSet 1).edits ≠ ⟨[]⟩ := by decide +kernel

theorem witness_SetProfileReplacesARecord :
    let b : ProfileBytes := ⟨0, 0xFFFF, 5000, 0, 16, 48, 48, 80⟩
    let free := demoBar 3 fun b => { b with pinned := false, profile := 7 }
    let answered (s : State) (profile : Byte) (b : ProfileBytes) : Option Reply :=
      (after (.setProfile profile b) s).port.held.map (·.reply)
    demo.portIdle ∧ demo.speedLaw ∧ demo.sizesLaw ∧ demo.addressLaw ∧ free.speedLaw ∧ free.sizesLaw ∧ free.addressLaw
      ∧ (free.bar 3).state = .idle ∧ (free.bar 3).profile = 7
      ∧ answered demo 8 b = some { status := .badValue, body := [] }
      ∧ [{ b with os := 15 }, { b with oe := 47 }, { b with us := 47 }, { b with ue := 79 }, { b with ue := 1009 }].map
          (answered demo 7)
        = (([0, 1, 2, 3, 4] : List Byte).map fun place => some { status := .badValue, body := [place] })
      ∧ answered demo 0 b = some { status := .inUse, body := [3] }
      ∧ (answered free 7 b).any (·.status == .ok) = true ∧ ((after (.setProfile 7 b) free).bar 3).state = .binding := by
  decide +kernel

theorem witness_SpeedCapIsStored :
    let capped (speed : BitVec 16) : Nat := (after (.setSpeedCap speed) demo).plan.sCap
    demo.portIdle ∧ demo.frame ≠ none ∧ State.reset.portIdle ∧ State.reset.frame = none ∧ demo.plan.sCap = 0
      ∧ [0, 1200, 1201, 65535].map capped = [0, 1200, 1200, 1200] := by decide +kernel

theorem witness_SpeedCapIsStored_resets :
    (∃ t, exec (.coldReset .powerOn true true true) demo = .next t) ∧ ∃ t, exec .restart demo = .next t :=
  ⟨exec_next _ _, exec_next _ _⟩

theorem witness_AlertRequests :
    let levels (kind level : Byte) : Nat := (after (.setAlertLevel kind level) demo).alerts.levels.getD kind.toNat 99
    demo.portIdle ∧ demo.sizesLaw ∧ (0 : Byte).toNat ≤ 15 ∧ (15 : Byte).toNat ≤ 15 ∧ 16 ≤ (16 : Byte).toNat
      ∧ [(1, 0), (15, 15), (15, 16), (0, 9)].map (fun (kind, level) => levels kind level) = [1, 15, 15, 0]
      ∧ [0, 1, 15, 16].map (fun v => (after (.setStopThreshold v) demo).alerts.threshold) = [1, 1, 15, 15]
      ∧ demo.alerts.emergencyActive = false ∧ (after .clearHalt demo).alerts.haltLatch = false
      ∧ (after .emergencyInputActive demo).sizesLaw ∧ (after .emergencyInputActive demo).alerts.emergencyActive = true := by
  decide +kernel

theorem witness_SetFrameIsWrittenOnce :
    let s : State := { State.reset with now := 1 }
    let b (gauge : Byte) : FrameBytes := ⟨gauge, 0xFFFFFFFFFFFFFFFF, 0, 65535, 0⟩
    let framed (gauge : Byte) : Option Nat := (after (.setFrame (b gauge)) s).frame.map (·.gauge)
    demo.portIdle ∧ demo.frame ≠ none ∧ s.portIdle ∧ s.frame = none ∧ s.sizesLaw ∧ s.linkLaw ∧ s.planLaw ∧ s.assignmentLaw
      ∧ s.plan.sCap = 0 ∧ [4, 5, 40, 41].map framed = [none, some 5, some 40, none] := by decide +kernel

theorem witness_PieceRequests :
    let lengths (s : State) (length : BitVec 32) : Nat × Nat :=
      let p := (after (.setPieceLength length) s).pieces
      (p.preload, p.count)
    demo.portIdle ∧ demo.pieces.state = .paused ∧ (demoPieces 1).portIdle ∧ (demoPieces 1).pieces.state = .counting
      ∧ [0, 1, 1000000, 1000001].map (lengths demo) = [(1, 1), (1, 1), (1000000, 1000000), (1000000, 1000000)]
      ∧ lengths (demoPieces 1) 9 = (9, 1) := by decide +kernel

theorem witness_WarmResetBlockByBlock :
    demo.portIdle ∧ demo.sizesLaw ∧ (demoBusy .restart).port.inFlight = some .restart
      ∧ (demoBusy (.sealing 2)).port.inFlight ≠ some .restart ∧ State.reset.portIdle ∧ State.reset.frame = none
      ∧ demo.frame ≠ none ∧ 13 < 16 ∧ 13 ≠ 8 ∧ 13 ≠ 9 ∧ 63 ∈ slots := by decide +kernel

/-- The record rebuilt at course 0 from a pair (0, b): not blocked, blocked for TRAVEL, for SHOG_LIMIT and for TIMING. -/
theorem witness_WarmResetBlockByBlock_blocked :
    let s (b : Nat) (p : Profile) : State :=
      { demo with store := { demo.store with memory := ⟨[(0, .course 0 b)]⟩ }, profiles := demo.profiles.set 0 p }
    let raised (b : Nat) (p : Profile) : List Bool :=
      [8, 9].map fun kind => ((after .restart (s b p)).alerts.record kind).pending
    (s 512 coldProfile).sizesLaw ∧ (s 512 coldProfile).portIdle
      ∧ [raised 48 coldProfile, raised 512 coldProfile, raised 49 coldProfile, raised 40 slowProfile]
        = [[false, false], [true, false], [false, true], [false, true]] := by decide +kernel

theorem witness_ColdResetTakesEveryBlock :
    10 ≤ 10 ∧ 9 < 10 ∧ after (.coldReset (.resetInput 9) true true true) demo = demo
      ∧ (after (.coldReset (.resetInput 10) true true true) demo).frame = none := by decide +kernel

theorem witness_ReadShiftsOutTheHeldResponse :
    let held : Held := { reply := okReply [5], wasRead := false }
    let s := demo.onPort fun p => { p with held := some held }
    0 < 1 ∧ demo.port.inFlight = none ∧ demo.port.held = none ∧ s.port.inFlight = none ∧ s.port.held = some held
      ∧ (demoBusy .restart).port.inFlight ≠ none ∧ (after (.read 1) s).port.held = some { held with wasRead := true }
      ∧ (after (.read 7) s).port.dataOut = [0, 0, 0, 1, 5, 0, 0]
      ∧ (after (.read 4) (demoBusy .restart)).port.dataOut = [0, 1, 0, 0]
      ∧ (after (.read 4) demo).port.dataOut = [0, 6, 0, 0] := by decide +kernel

theorem witness_PerformingPortRefusesWithBusy :
    (demoBusy (.sealing 2)).port.inFlight ≠ none ∧ encodeRequest (.setTrim 5 0xFFFE) = some (20 :: [3, 5, 0xFF, 0xFE])
      ∧ (200 : Byte) ≠ 0 ∧ (after (.setTrim 5 0xFFFE) (demoBusy (.sealing 2))).port.dataOut = [2, 0, 0, 0, 0] := by
  decide +kernel

theorem witness_MessagesAreChecked :
    demo.portIdle ∧ (bodyReader 200).isNone = true ∧ (bodyReader 33).isSome = true ∧ (241 : Byte) ≠ 0
      ∧ ((bodyReader 241).any fun r => (r [1]).isNone) = true ∧ (1 : Byte).toNat ≠ ([] : List Byte).length
      ∧ wellFormed (.setTrim 5 0xFFFE) = true ∧ encodeRequest (.setTrim 5 0xFFFE) = some [20, 3, 5, 0xFF, 0xFE]
      ∧ (253 : Byte).toNat = (List.replicate 253 (0 : Byte)).length ∧ (253 : Nat) = 3 + 5 * 50 := by decide +kernel

theorem witness_RequestMessagesRoundTrip :
    wellFormed (.writeSteps 12 4 [⟨3, 0xFFFF, 0⟩]) = true
      ∧ encodeRequest (.writeSteps 12 4 [⟨3, 0xFFFF, 0⟩]) = some [33, 8, 12, 0, 4, 3, 0xFF, 0xFF, 0, 0]
      ∧ parseMessage [33, 8, 12, 0, 4, 3, 0xFF, 0xFF, 0, 0] = .request (.writeSteps 12 4 [⟨3, 0xFFFF, 0⟩]) := by
  decide +kernel

/-- The demo state keeps every law, and a step of it answers a next state: the witness of every invariant. -/
theorem witness_invariants :
    demo.linesLaw ∧ demo.speedLaw ∧ demo.floorLaw ∧ demo.addressLaw ∧ demo.linkLaw ∧ demo.planLaw ∧ demo.commitLaw
      ∧ demo.storeLaw ∧ demo.programsLaw ∧ demo.sizesLaw ∧ demo.windowsLaw ∧ demo.trackersLaw ∧ demo.rangesLaw
      ∧ demo.assignmentLaw ∧ demo.refsLaw ∧ demo.cursorLaw ∧ demo.heldLaw ∧ ∃ t : State, step demo = .next t :=
  ⟨by decide +kernel, by decide +kernel, by decide +kernel, by decide +kernel, by decide +kernel, by decide +kernel,
    by decide +kernel, demo_storeLaw, by decide +kernel, by decide +kernel, by decide +kernel, by decide +kernel,
    by decide +kernel, by decide +kernel, by decide +kernel, by decide +kernel, by decide +kernel, step_next _⟩

/-- The demo state as it is planned on: its plan configuration is that of the next course, with an entry of slot 4. -/
def demoLimits : State :=
  let entry : Entry := { slot := 4, role := .lead, pair := some (2, 2), u := 2, dU := 0 }
  let current := { demo.plan.current with entries := [entry] }
  { demo with
    plan := { demo.plan with current, layout := demo.knitLayout }, moves := { demo.moves with held := current } }

theorem witness_MoveTargetsKeepTheLimits :
    let b := { demo.bar 4 with low := 2, high := 511 }
    windowLaws demoLimits = true ∧ planLaws demoLimits = true ∧ setLaws demoLimits = true
      ∧ decide demoLimits.limitsLaw = true ∧ b.low ≤ b.high
      ∧ [1, 2, 50, 51, 600].map (clampTarget b coldProfile 2) = [2, 2, 50, 50, 50]
      ∧ b.low ≤ b.startPoint ∧ b.startPoint ≤ b.high ∧ b.move = none ∧ ((demoMove 4 .pattern).bar 4).startPoint = 2
      ∧ (demo.onMoves fun m => { m with starts := m.starts.set 4 (some 9) }).keptStart 4 = 9 ∧ demo.keptStart 4 = 2 := by
  decide +kernel

theorem witness_MoveTargetsKeepTheLimits_step : ∃ t : State, step demoLimits = .next t := step_next _

/-- The demo state with slot 5 following slot 4. -/
def demoFollow (offset : Int) (mirror : Bool) : State :=
  demoBar 5 fun b => { b with assignment := .follow 4 offset mirror, cursor := none }

theorem witness_FollowersFollowAnEngagedLead :
    let pair (offset : Int) (mirror : Bool) : Option (Int × Int) :=
      (demoFollow offset mirror).pairIn (demoFollow offset mirror).knitLayout 5
    let s := demoFollow 511 false
    windowLaws s = true ∧ planLaws s = true ∧ setLaws s = true ∧ decide s.followLaw = true
      ∧ (s.bar 5).assignment = .follow 4 511 false ∧ (s.knitLayout.config.getD 4 coldConfig).assignment = .lead 1
      ∧ s.pairIn s.knitLayout 4 = some (2, 2) ∧ pair 511 false = some (513, 513) ∧ pair (-511) true = some (-513, -513) := by
  decide +kernel

theorem witness_FollowersFollowAnEngagedLead_step : ∃ t : State, step (demoFollow 511 false) = .next t := step_next _

theorem witness_LinesAndSpeedFollowEveryStep :
    let unframed : State := State.reset
    demo.speedLaw ∧ demo.frame ≠ none ∧ (∃ b ∈ demo.bars, b.state = .faulted ∨ b.state = .rebinding)
      ∧ unframed.speedLaw ∧ unframed.frame = none ∧ demo.alerts.stop = true ∧ demo.plan.current ∈ demo.plan.records := by
  decide +kernel

end Sys2Proof.Tests
end

section
/-! Reasoning rules for requests that change one field of a bar: what such a change does to the state and to the permitted
speed, and how an idle port answers a request that is accepted or refused. -/

namespace Sys2Proof.Machine

/-! ### Changing one bar -/

/-- A slot that names no record changes nothing, on both sides. -/
theorem State.onBar_eq_set (s : State) (slot : Nat) (f : Bar → Bar) :
    s.onBar slot f = { s with bars := s.bars.set slot (f (s.bar slot)) } := by
  have modified : s.bars.modify slot f = s.bars.set slot (f (s.bar slot)) := by
    rw [State.bar, List.getD_eq_getElem?_getD]
    exact @List.modify_eq_set Bar ⟨coldBar⟩ f slot s.bars
  simp only [State.onBar, modified]

/-- A test that a change of an element does not alter holds of some element exactly where it did before. -/
theorem any_modify {α : Type} {p : α → Bool} {f : α → α} (hf : ∀ a, p (f a) = p a) (l : List α) (n : Nat) :
    (l.modify n f).any p = l.any p := by
  induction l generalizing n with
  | nil => simp
  | cons a rest ih =>
    cases n with
    | zero => simp [hf]
    | succ n => simp [ih]

/-- Of a bar's fields, the permitted speed reads the state alone (R126). -/
theorem State.permittedSpeed_onBar (s : State) (slot : Nat) {f : Bar → Bar} (hf : ∀ b, (f b).state = b.state) :
    (s.onBar slot f).permittedSpeed = s.permittedSpeed := by
  have holds : (s.onBar slot f).barHoldsSpeed = s.barHoldsSpeed := any_modify (fun b => by rw [hf]) s.bars slot
  simp [State.permittedSpeed, holds]

theorem State.speedLaw_onBar {s : State} (h : s.speedLaw) (slot : Nat) {f : Bar → Bar}
    (hf : ∀ b, (f b).state = b.state) : (s.onBar slot f).speedLaw := by
  simpa only [State.speedLaw, State.permittedSpeed_onBar s slot hf, State.onBar_fields] using h

/-! ### Answers of an idle port -/

/-- A refused request leaves an answer and nothing else (R185, R186). -/
theorem State.request_of_refuse {s : State} (idle : s.portIdle) {length : Nat} {perform : State → State × Reply}
    {status : Status} (performed : perform (s.takeRequest (length + 2)) = (s.takeRequest (length + 2)).refuse status) :
    s.request length perform = s.answered (length + 2) (refusal status) := by
  rw [State.request_idle idle, performed]
  exact State.hold_takeRequest s (length + 2) (refusal status)

/-- An accepted request after which P is still the permitted speed leaves its change, its answer and nothing else (R126,
R185, R186). -/
theorem State.request_of_accept {s t : State} (idle : s.portIdle) {length : Nat} {perform : State → State × Reply}
    {body : List Byte} (performed : perform (s.takeRequest (length + 2)) = (t.takeRequest (length + 2)).accept body)
    (speed : t.speedLaw) : s.request length perform = t.answered (length + 2) (okReply body) := by
  have kept : (t.takeRequest (length + 2)).speedLaw := speed
  rw [State.request_idle idle, performed, State.accept, State.settle_of_speedLaw kept]
  exact State.hold_takeRequest t (length + 2) (okReply body)

end Sys2Proof.Machine
end

section
/-! SET_ADDRESS (R20): one equation for each row of its checks, and what is settled of it. -/

namespace Sys2Proof.Machine

theorem exec_setAddress (slot address : Byte) (s : State) :
    exec (.setAddress slot address) s
      = .next (s.request 2 (State.performSetAddress slot.toNat address.toNat)) := rfl

theorem State.fittedSlot_iff (s : State) (slot : Nat) : s.fittedSlot slot = true ↔ (s.bar slot).state ≠ .unfitted := by
  simp [State.fittedSlot, BarState.isFitted]

theorem State.performSetAddress_unfitted (s : State) {slot : Nat} (h : (s.bar slot).state = .unfitted) (address : Nat) :
    s.performSetAddress slot address = s.refuse .badSlot := by
  have unfitted : ¬ s.fittedSlot slot = true := fun fitted => (s.fittedSlot_iff slot).mp fitted h
  simp [State.performSetAddress, unfitted]

theorem State.performSetAddress_badValue (s : State) {slot address : Nat} (h : (s.bar slot).state ≠ .unfitted)
    (large : 127 ≤ address) : s.performSetAddress slot address = s.refuse .badValue := by
  have fitted := (s.fittedSlot_iff slot).mpr h
  have above : 126 < address := large
  simp [State.performSetAddress, fitted, above]

theorem State.performSetAddress_badState (s : State) {slot address : Nat} (h : (s.bar slot).state ≠ .unfitted)
    (small : address ≤ 126) (notParked : (s.bar slot).state ≠ .parked) :
    s.performSetAddress slot address = s.refuse .badState := by
  have fitted := (s.fittedSlot_iff slot).mpr h
  simp [State.performSetAddress, fitted, small, notParked]

theorem State.performSetAddress_parked (s : State) {slot address : Nat} (h : (s.bar slot).state = .parked)
    (small : address ≤ 126) :
    s.performSetAddress slot address = (s.onBar slot fun b => { b with address }).accept [] := by
  have fitted : s.fittedSlot slot = true := (s.fittedSlot_iff slot).mpr (by simp [h])
  simp [State.performSetAddress, fitted, small, h]

/-- The frame of an accepted SET_ADDRESS: the one record's address and the answer. -/
theorem exec_setAddress_parked {s : State} {slot address : Byte} (idle : s.portIdle) (speed : s.speedLaw)
    (parked : (s.bar slot.toNat).state = .parked) (small : address.toNat ≤ 126) :
    exec (.setAddress slot address) s
      = .next (({ s with
          bars := s.bars.set slot.toNat { s.bar slot.toNat with address := address.toNat } } : State).answered 4
            (okReply [])) := by
  have kept : (s.onBar slot.toNat fun b => { b with address := address.toNat }).speedLaw :=
    State.speedLaw_onBar speed slot.toNat fun _ => rfl
  rw [exec_setAddress, State.request_of_accept idle (State.performSetAddress_parked (s.takeRequest 4) parked small) kept,
    State.onBar_eq_set]

/-- A pinned bar is named by an edit of a committed set, and no such edit names a PARKED bar (R30). -/
theorem State.not_parked_of_pinned {s : State} (law : s.assignmentLaw) {slot : Nat} (inTable : slot ∈ slots)
    (pinned : (s.bar slot).pinned = true) : (s.bar slot).state ≠ .parked := by
  obtain ⟨-, pins, -⟩ := law
  obtain ⟨pinned_eq, not_parked⟩ := pins slot inTable
  exact not_parked (pinned_eq ▸ pinned)

/-- Settles O28: the checks of SET_ADDRESS in their order, the accepted case from `exec_setAddress_parked`. -/
theorem setAddressOfAParkedBar : Obligations.SetAddressOfAParkedBar := by
  refine ⟨fun s slot address _ idle speed => ⟨?parked, ?badValue, ?badState, ?unfitted⟩,
    fun _ law _ => State.not_parked_of_pinned law⟩
  case parked => exact fun parked small => exec_setAddress_parked idle speed parked small
  case badValue =>
    intro fitted large
    rw [exec_setAddress, State.request_of_refuse idle
      (State.performSetAddress_badValue (s.takeRequest 4) fitted large)]
  case badState =>
    intro fitted notParked small
    rw [exec_setAddress, State.request_of_refuse idle
      (State.performSetAddress_badState (s.takeRequest 4) fitted small notParked)]
  case unfitted =>
    intro unfitted
    rw [exec_setAddress, State.request_of_refuse idle
      (State.performSetAddress_unfitted (s.takeRequest 4) unfitted address.toNat)]

end Sys2Proof.Machine
end

section
/-! OPEN_SET, DROP_EDIT and DISCARD_SET (R79, R82, R83): what the first two checks of R78 answer, one equation for each row
of a request's own checks, and what is settled of them. -/

namespace Sys2Proof.Machine

/-- A request that turns the state into another and says so in its reply leaves that other state and the reply, nothing
else (R185, R186). -/
theorem State.request_of_reply {s t : State} (idle : s.portIdle) {length : Nat} {perform : State → State × Reply}
    {reply : Reply} (performed : perform (s.takeRequest (length + 2)) = (t.takeRequest (length + 2), reply)) :
    s.request length perform = t.answered (length + 2) reply := by
  rw [State.request_idle idle, performed]
  exact State.hold_takeRequest t (length + 2) reply

theorem beBytes_one (v : Nat) : beBytes 1 v = [BitVec.ofNat 8 v] := by simp [beBytes]

/-! ### The set number and the set's state (R78) -/

/-- A set number past the last of four reads as FREE, so a set that is not FREE is one of the four. -/
theorem State.set_le_three {s : State} (four : s.changes.sets.length = 4) {n : Nat} (used : s.changeSet n ≠ .free) :
    n ≤ 3 := by
  by_contra past
  have absent : s.changeSet n = .free := List.getD_eq_default _ _ (by omega)
  exact used absent

theorem State.openEdits_badValue (s : State) {n : Nat} (large : 4 ≤ n) : s.openEdits n = .error .badValue := by
  have above : 3 < n := large
  simp [State.openEdits, above]

theorem State.openEdits_opened {s : State} {n : Nat} (small : n ≤ 3) {edits : KMap Edit}
    (opened : s.changeSet n = .opened edits) : s.openEdits n = .ok edits := by
  simp [State.openEdits, small, opened]

theorem State.openEdits_free {s : State} {n : Nat} (small : n ≤ 3) (free : s.changeSet n = .free) :
    s.openEdits n = .error .badState := by
  simp [State.openEdits, small, free]

theorem State.openEdits_committed {s : State} {n : Nat} (small : n ≤ 3) {edits : KMap Edit} {e : Nat}
    (committed : s.changeSet n = .committed edits e) : s.openEdits n = .error .badState := by
  simp [State.openEdits, small, committed]

/-! ### OPEN_SET (R79) -/

theorem exec_openSet (set : Byte) (s : State) :
    exec (.openSet set) s = .next (s.request 1 (State.performOpen set.toNat)) := rfl

theorem State.performOpen_badValue (s : State) {n : Nat} (large : 4 ≤ n) : s.performOpen n = s.refuse .badValue := by
  have above : 3 < n := large
  simp [State.performOpen, above]

theorem State.performOpen_free {s : State} {n : Nat} (small : n ≤ 3) (free : s.changeSet n = .free) :
    s.performOpen n = (s.setChangeSet n (.opened ⟨[]⟩), okReply [BitVec.ofNat 8 n]) := by
  simp [State.performOpen, small, free, beBytes_one]

theorem State.performOpen_badState {s : State} {n : Nat} (small : n ≤ 3) (used : s.changeSet n ≠ .free) :
    s.performOpen n = s.refuse .badState := by
  cases found : s.changeSet n with
  | free => exact absurd found used
  | opened edits => simp [State.performOpen, small, found]
  | committed edits e => simp [State.performOpen, small, found]

theorem exec_openSet_badValue {s : State} {set : Byte} (idle : s.portIdle) (large : 4 ≤ set.toNat) :
    exec (.openSet set) s = .next (s.answered 3 (refusal .badValue)) := by
  rw [exec_openSet, State.request_of_refuse idle (State.performOpen_badValue (s.takeRequest 3) large)]

theorem exec_openSet_free {s : State} {set : Byte} (idle : s.portIdle) (small : set.toNat ≤ 3)
    (free : s.changeSet set.toNat = .free) :
    exec (.openSet set) s = .next ((s.setChangeSet set.toNat (.opened ⟨[]⟩)).answered 3 (okReply [set])) := by
  have performed : (s.takeRequest 3).performOpen set.toNat
      = ((s.setChangeSet set.toNat (.opened ⟨[]⟩)).takeRequest 3, okReply [BitVec.ofNat 8 set.toNat]) :=
    State.performOpen_free (s := s.takeRequest 3) small free
  rw [exec_openSet, State.request_of_reply idle performed, BitVec.ofNat_toNat, BitVec.setWidth_eq]

theorem exec_openSet_badState {s : State} {set : Byte} (idle : s.portIdle) (small : set.toNat ≤ 3)
    (used : s.changeSet set.toNat ≠ .free) :
    exec (.openSet set) s = .next (s.answered 3 (refusal .badState)) := by
  rw [exec_openSet, State.request_of_refuse idle (State.performOpen_badState (s := s.takeRequest 3) small used)]

/-! ### DISCARD_SET (R83) -/

theorem exec_discardSet (set : Byte) (s : State) :
    exec (.discardSet set) s = .next (s.request 1 (State.performDiscard set.toNat)) := rfl

theorem State.performDiscard_error {s : State} {n : Nat} {status : Status} (notOpen : s.openEdits n = .error status) :
    s.performDiscard n = s.refuse status := by
  simp [State.performDiscard, notOpen]

theorem State.performDiscard_ok {s : State} {n : Nat} {edits : KMap Edit} (opened : s.openEdits n = .ok edits) :
    s.performDiscard n = (s.setChangeSet n .free, okReply []) := by
  simp [State.performDiscard, opened]

theorem exec_discardSet_error {s : State} {set : Byte} (idle : s.portIdle) {status : Status}
    (notOpen : s.openEdits set.toNat = .error status) :
    exec (.discardSet set) s = .next (s.answered 3 (refusal status)) := by
  rw [exec_discardSet, State.request_of_refuse idle (State.performDiscard_error (s := s.takeRequest 3) notOpen)]

theorem exec_discardSet_ok {s : State} {set : Byte} (idle : s.portIdle) {edits : KMap Edit}
    (opened : s.openEdits set.toNat = .ok edits) :
    exec (.discardSet set) s = .next ((s.setChangeSet set.toNat .free).answered 3 (okReply [])) := by
  have performed : (s.takeRequest 3).performDiscard set.toNat
      = ((s.setChangeSet set.toNat .free).takeRequest 3, okReply []) :=
    State.performDiscard_ok (s := s.takeRequest 3) opened
  rw [exec_discardSet, State.request_of_reply idle performed]

/-! ### DROP_EDIT (R82) -/

theorem exec_dropEdit (set slot : Byte) (s : State) :
    exec (.dropEdit set slot) s = .next (s.request 2 (State.performDropEdit set.toNat slot.toNat)) := rfl

theorem State.performDropEdit_error {s : State} {n : Nat} {status : Status} (notOpen : s.openEdits n = .error status)
    (slot : Nat) : s.performDropEdit n slot = s.refuse status := by
  simp [State.performDropEdit, notOpen]

theorem State.performDropEdit_badValue {s : State} {n slot : Nat} {edits : KMap Edit}
    (opened : s.openEdits n = .ok edits) (large : 64 ≤ slot) : s.performDropEdit n slot = s.refuse .badValue := by
  have above : 63 < slot := large
  simp [State.performDropEdit, opened, above]

theorem State.performDropEdit_notFound {s : State} {n slot : Nat} {edits : KMap Edit}
    (opened : s.openEdits n = .ok edits) (small : slot ≤ 63) (absent : edits.find slot = none) :
    s.performDropEdit n slot = s.refuse .notFound := by
  simp [State.performDropEdit, opened, small, KMap.has, absent]

theorem State.performDropEdit_found {s : State} {n slot : Nat} {edits : KMap Edit}
    (opened : s.openEdits n = .ok edits) (small : slot ≤ 63) (found : edits.find slot ≠ none) :
    s.performDropEdit n slot
      = (s.setChangeSet n (.opened (edits.del slot)), okReply [BitVec.ofNat 8 (edits.del slot).cells.length]) := by
  have held : edits.has slot = true := Option.isSome_iff_ne_none.mpr found
  simp [State.performDropEdit, State.editsBecome, opened, small, held, beBytes_one]

theorem exec_dropEdit_error {s : State} {set : Byte} (idle : s.portIdle) {status : Status}
    (notOpen : s.openEdits set.toNat = .error status) (slot : Byte) :
    exec (.dropEdit set slot) s = .next (s.answered 4 (refusal status)) := by
  rw [exec_dropEdit, State.request_of_refuse idle
    (State.performDropEdit_error (s := s.takeRequest 4) notOpen slot.toNat)]

theorem exec_dropEdit_badValue {s : State} {set slot : Byte} (idle : s.portIdle) {edits : KMap Edit}
    (opened : s.openEdits set.toNat = .ok edits) (large : 64 ≤ slot.toNat) :
    exec (.dropEdit set slot) s = .next (s.answered 4 (refusal .badValue)) := by
  rw [exec_dropEdit, State.request_of_refuse idle
    (State.performDropEdit_badValue (s := s.takeRequest 4) opened large)]

theorem exec_dropEdit_notFound {s : State} {set slot : Byte} (idle : s.portIdle) {edits : KMap Edit}
    (opened : s.openEdits set.toNat = .ok edits) (small : slot.toNat ≤ 63) (absent : edits.find slot.toNat = none) :
    exec (.dropEdit set slot) s = .next (s.answered 4 (refusal .notFound)) := by
  rw [exec_dropEdit, State.request_of_refuse idle
    (State.performDropEdit_notFound (s := s.takeRequest 4) opened small absent)]

theorem exec_dropEdit_found {s : State} {set slot : Byte} (idle : s.portIdle) {edits : KMap Edit}
    (opened : s.openEdits set.toNat = .ok edits) (small : slot.toNat ≤ 63) (found : edits.find slot.toNat ≠ none) :
    exec (.dropEdit set slot) s
      = .next ((s.setChangeSet set.toNat (.opened (edits.del slot.toNat))).answered 4
          (okReply [BitVec.ofNat 8 (edits.del slot.toNat).cells.length])) := by
  have performed : (s.takeRequest 4).performDropEdit set.toNat slot.toNat
      = ((s.setChangeSet set.toNat (.opened (edits.del slot.toNat))).takeRequest 4,
          okReply [BitVec.ofNat 8 (edits.del slot.toNat).cells.length]) :=
    State.performDropEdit_found (s := s.takeRequest 4) opened small found
  rw [exec_dropEdit, State.request_of_reply idle performed]

/-! ### The obligation -/

/-- Settles O36: in each state of the set, and for a number that names none, the rows of the three requests. -/
theorem setsOpenDropAndDiscard : Obligations.SetsOpenDropAndDiscard := by
  intro s set idle four
  refine ⟨?free, ?opened, ?committed, ?badNumber⟩
  case free =>
    intro free small
    have notOpen := State.openEdits_free small free
    exact ⟨exec_openSet_free idle small free, exec_discardSet_error idle notOpen, exec_dropEdit_error idle notOpen⟩
  case opened =>
    intro edits opened
    have used : s.changeSet set.toNat ≠ .free := by simp [opened]
    have small := State.set_le_three four used
    have isOpen := State.openEdits_opened small opened
    refine ⟨exec_openSet_badState idle small used, exec_discardSet_ok idle isOpen, fun slot =>
      ⟨exec_dropEdit_badValue idle isOpen, exec_dropEdit_notFound idle isOpen, fun inTable found => ?_⟩⟩
    exact ⟨edits.del slot.toNat, exec_dropEdit_found idle isOpen inTable found, by simp,
      fun m other => by simp [other]⟩
  case committed =>
    intro edits e committed
    have used : s.changeSet set.toNat ≠ .free := by simp [committed]
    have small := State.set_le_three four used
    have notOpen := State.openEdits_committed small committed
    exact ⟨exec_openSet_badState idle small used, exec_discardSet_error idle notOpen, exec_dropEdit_error idle notOpen⟩
  case badNumber =>
    intro large
    have notOpen := State.openEdits_badValue s large
    exact ⟨exec_openSet_badValue idle large, exec_discardSet_error idle notOpen, exec_dropEdit_error idle notOpen⟩

end Sys2Proof.Machine
end

section
/-! The arithmetic of shogs (R105, R106, R108): the whole root, the move time and the window ceiling, each said once, and what
is settled of them. -/

namespace Sys2Proof.Machine

/-! ### The whole root -/

/-- The bits still to be tried cover the root as long as it lies in r..r + 2 ^ bits − 1. -/
theorem rootFrom_eq_sqrt {n bits r : Nat} (low : r * r ≤ n) (high : n < (r + 2 ^ bits) * (r + 2 ^ bits)) :
    rootFrom n bits r = Nat.sqrt n := by
  induction bits generalizing r with
  | zero => exact Nat.eq_sqrt.mpr ⟨low, high⟩
  | succ bits ih =>
    rw [rootFrom]
    split
    next fits =>
      have covered : r + 2 ^ bits + 2 ^ bits = r + 2 ^ (bits + 1) := by rw [Nat.pow_succ]; omega
      exact ih fits (by rwa [covered])
    next tooLarge => exact ih low (Nat.lt_of_not_le tooLarge)

theorem floorRoot_eq_sqrt {n : Nat} (small : n < 4 ^ 32) : floorRoot n = Nat.sqrt n :=
  rootFrom_eq_sqrt (Nat.zero_le n) (by simpa using small)

/-- The rounded-up root is the least number whose square reaches n (R105). -/
theorem ceilRoot_le_iff {n : Nat} (small : n < 4 ^ 32) (m : Nat) : ceilRoot n ≤ m ↔ n ≤ m * m := by
  rw [ceilRoot, floorRoot_eq_sqrt small]
  split
  next square => rw [← Nat.mul_self_le_mul_self_iff, square]
  next notSquare =>
    have below : Nat.sqrt n * Nat.sqrt n < n := Nat.lt_of_le_of_ne (Nat.sqrt_le n) notSquare
    rw [Nat.succ_le_iff, Nat.sqrt_lt]
    refine ⟨Nat.le_of_lt, fun reached => Nat.lt_of_le_of_ne reached fun equal => ?_⟩
    rw [equal, Nat.sqrt_eq] at below
    exact Nat.lt_irrefl _ below

/-! ### The move time -/

theorem Profile.moveTime_trapezoid {p : Profile} {d : Nat} (long : p.tAcc ≤ d * p.tNs) :
    p.moveTime d = d * p.tNs + p.tAcc := if_pos long

theorem Profile.moveTime_triangle {p : Profile} {d : Nat} (short : d * p.tNs < p.tAcc) :
    p.moveTime d = ceilRoot (4 * d * p.tAcc * p.tNs) := if_neg (Nat.not_le.mpr short)

/-- The move time reads t_acc and t_ns alone of a profile (R106). -/
theorem Profile.moveTime_congr {p q : Profile} (acc : q.tAcc = p.tAcc) (ns : q.tNs = p.tNs) (d : Nat) :
    q.moveTime d = p.moveTime d := by rw [moveTime, moveTime, acc, ns]

theorem Profile.product_le {p : Profile} (acc : p.tAcc ≤ 20000) (ns : p.tNs ≤ 5000) {d most : Nat} (small : d ≤ most) :
    4 * d * p.tAcc * p.tNs ≤ 4 * most * 20000 * 5000 := by gcongr

section Range
variable {p : Profile} {d : Nat} (product : 4 * d * p.tAcc * p.tNs < 4 ^ 32)
include product

theorem Profile.moveTime_le_iff (short : d * p.tNs < p.tAcc) (m : Nat) :
    p.moveTime d ≤ m ↔ 4 * d * p.tAcc * p.tNs ≤ m * m := by
  rw [moveTime_triangle short]; exact ceilRoot_le_iff product m

/-- The triangle never takes longer than the trapezoid sum: 4xy is at most the square of x + y. -/
theorem Profile.moveTime_le_sum : p.moveTime d ≤ d * p.tNs + p.tAcc := by
  rcases Nat.lt_or_ge (d * p.tNs) p.tAcc with short | long
  · rw [moveTime_le_iff product short]
    calc 4 * d * p.tAcc * p.tNs = 4 * (d * p.tNs) * p.tAcc := by ring
      _ ≤ (d * p.tNs + p.tAcc) ^ 2 := four_mul_le_pow_two_add _ _
      _ = (d * p.tNs + p.tAcc) * (d * p.tNs + p.tAcc) := sq _
  · exact (moveTime_trapezoid long).le

theorem Profile.moveTime_le_two_acc (short : d * p.tNs < p.tAcc) : p.moveTime d ≤ 2 * p.tAcc := by
  have sum := moveTime_le_sum product
  omega

theorem Profile.product_le_moveTime_sq (short : d * p.tNs < p.tAcc) :
    4 * d * p.tAcc * p.tNs ≤ p.moveTime d * p.moveTime d :=
  (moveTime_le_iff product short _).mp le_rfl

theorem Profile.moveTime_pos (short : d * p.tNs < p.tAcc) (moves : 0 < 4 * d * p.tAcc * p.tNs) :
    0 < p.moveTime d :=
  Nat.pos_of_mul_pos_left (Nat.lt_of_lt_of_le moves (product_le_moveTime_sq product short))

theorem Profile.moveTime_pred_sq_lt (short : d * p.tNs < p.tAcc) (moves : 0 < 4 * d * p.tAcc * p.tNs) :
    (p.moveTime d - 1) * (p.moveTime d - 1) < 4 * d * p.tAcc * p.tNs := by
  have positive := moveTime_pos product short moves
  rw [← Nat.not_le, ← moveTime_le_iff product short]
  omega

/-- A triangle's square gains at most 2m − 1 over (m − 1) × (m − 1), and with m at most 2 × t_acc that is less than the
4 × t_acc × t_ns which one needle space more adds to the product. -/
theorem Profile.moveTime_sq_lt_next (short : d * p.tNs < p.tAcc) (moves : 0 < 4 * d * p.tAcc * p.tNs) :
    p.moveTime d * p.moveTime d < 4 * (d + 1) * p.tAcc * p.tNs := by
  have ns : 1 ≤ p.tNs := Nat.pos_of_mul_pos_left moves
  have twice := moveTime_le_two_acc product short
  have before := moveTime_pred_sq_lt product short moves
  have gain : 4 * p.tAcc ≤ 4 * p.tAcc * p.tNs := Nat.le_mul_of_pos_right _ ns
  have more : 4 * (d + 1) * p.tAcc * p.tNs = 4 * d * p.tAcc * p.tNs + 4 * p.tAcc * p.tNs := by ring
  obtain ⟨k, pred⟩ := Nat.exists_eq_add_one.mpr (moveTime_pos product short moves)
  have square : (k + 1) * (k + 1) = k * k + 2 * k + 1 := by ring
  rw [pred] at twice before ⊢
  rw [Nat.add_sub_cancel] at before
  omega

theorem Profile.moveTime_lt_succ (moves : 0 < 4 * d * p.tAcc * p.tNs)
    (productNext : 4 * (d + 1) * p.tAcc * p.tNs < 4 ^ 32) : p.moveTime d < p.moveTime (d + 1) := by
  rcases Nat.lt_or_ge ((d + 1) * p.tNs) p.tAcc with shortNext | longNext
  · have short : d * p.tNs < p.tAcc :=
      Nat.lt_of_le_of_lt (Nat.mul_le_mul_right _ (Nat.le_succ d)) shortNext
    rw [← Nat.not_le, moveTime_le_iff productNext shortNext, Nat.not_le]
    exact moveTime_sq_lt_next product short moves
  · have ns : 0 < p.tNs := Nat.pos_of_mul_pos_left moves
    calc p.moveTime d ≤ d * p.tNs + p.tAcc := moveTime_le_sum product
      _ < (d + 1) * p.tNs + p.tAcc := by rw [Nat.succ_mul]; omega
      _ = p.moveTime (d + 1) := (moveTime_trapezoid longNext).symm

end Range

/-- Settles O16: the product stays below 4 ^ 32 over the whole range, so the root is exact there, and each clause is a lemma
above. -/
theorem moveTimeIsExact : Obligations.MoveTimeIsExact := by
  intro p d positive small accLow accHigh nsLow nsHigh
  have bound : 4 * d * p.tAcc * p.tNs ≤ 204400000000 := Profile.product_le accHigh nsHigh small
  have product : 4 * d * p.tAcc * p.tNs < 4 ^ 32 := Nat.lt_of_le_of_lt bound (by decide)
  have moves : 0 < 4 * d * p.tAcc * p.tNs := by positivity
  refine ⟨Profile.moveTime_trapezoid, fun short => ⟨?_, ?_, ?_, ?_⟩, bound, Profile.product_le accHigh nsHigh, ?longest,
    fun below => ?rises, fun q acc ns => Profile.moveTime_congr acc ns d⟩
  · exact Profile.moveTime_pred_sq_lt product short moves
  · exact Profile.product_le_moveTime_sq product short
  · exact Profile.moveTime_le_sum product
  · exact Profile.moveTime_le_two_acc product short
  case longest =>
    calc p.moveTime d ≤ d * p.tNs + p.tAcc := Profile.moveTime_le_sum product
      _ ≤ 511 * 5000 + 20000 := by gcongr
  case rises =>
    have boundNext := Profile.product_le accHigh nsHigh (Nat.succ_le_of_lt below)
    exact Profile.moveTime_lt_succ product moves (Nat.lt_of_le_of_lt boundNext (by decide))

/-! ### The window ceiling -/

theorem windowCeiling_zero (sMax w : Nat) : windowCeiling sMax w 0 = sMax := if_pos rfl

theorem windowCeiling_pos {tReq : Nat} (h : 0 < tReq) (sMax w : Nat) :
    windowCeiling sMax w tReq = min sMax (1875000 * w / (32 * tReq)) := if_neg h.ne'

/-- An entry without a pair has the underlap ceiling alone (R118). -/
theorem Entry.ceiling_of_no_pair {e : Entry} (alone : e.pair = none) (p : Profile) (sMax : Nat) :
    e.ceiling p sMax = windowCeiling sMax (p.ue - p.us) (p.requiredTime e.dU) := by
  simp [Entry.ceiling, Entry.dO, alone, Profile.underlapWidth]

/-- An entry with a pair has the lesser of the overlap and the underlap ceiling (R118). -/
theorem Entry.ceiling_of_pair {e : Entry} {a b : Int} (pair : e.pair = some (a, b)) (p : Profile) (sMax : Nat) :
    e.ceiling p sMax
      = min (windowCeiling sMax (p.oe - p.os) (p.requiredTime (b - a).natAbs))
          (windowCeiling sMax (p.ue - p.us) (p.requiredTime e.dU)) := by
  simp [Entry.ceiling, Entry.dO, pair, Profile.overlapWidth, Profile.underlapWidth]

/-- Settles O15: N is the floor of the quotient, the greatest v whose product with the divisor stays within the dividend. -/
theorem windowCeilingIsTheGreatestSpeed : Obligations.WindowCeilingIsTheGreatestSpeed := by
  refine ⟨windowCeiling_zero, fun sMax w tReq positive => ?floor, fun e p sMax => ?entry⟩
  case floor =>
    have divisor : 0 < 32 * tReq := by omega
    refine ⟨1875000 * w / (32 * tReq), Nat.mul_div_le _ _, fun v fits => ?greatest, ?_⟩
    case greatest => exact (Nat.le_div_iff_mul_le divisor).mpr (by rwa [Nat.mul_comm])
    rw [windowCeiling_pos positive, min_def_lt]
  case entry =>
    exact ⟨fun alone => Entry.ceiling_of_no_pair alone p sMax, fun a b pair => Entry.ceiling_of_pair pair p sMax⟩

end Sys2Proof.Machine
end

section
/-! The end of a request that changes an input of P, and SET_SPEED_CAP (R128): the speed line's rule for any accepted request,
the cap as a bound of P, S_cap after the two resets, and what is settled of them. -/

namespace Sys2Proof.Machine

/-! ### Requests that change an input of P -/

/-- At the end of a step nothing but P and the speed line may change (R126, R127). -/
theorem State.settle_eq (s : State) (sendWanted : Bool) :
    s.settle sendWanted
      = { s with
          plan := { s.plan with p := (s.settle sendWanted).plan.p }
          speedLine := (s.settle sendWanted).speedLine } := by
  unfold State.settle
  split <;> rfl

/-- The end of a step reads nothing of the port. -/
theorem State.settle_takeRequest (s : State) (n : Nat) (sendWanted : Bool) :
    (s.takeRequest n).settle sendWanted = (s.settle sendWanted).takeRequest n := by
  have permitted : (s.takeRequest n).permittedSpeed = s.permittedSpeed := rfl
  simp only [State.settle, permitted, State.takeRequest_frame]
  split <;> rfl

/-- An accepted request leaves its change with P and the speed line following it, its answer and nothing else (R126, R127,
R185, R186). -/
theorem State.request_of_accept_settle {s t : State} (idle : s.portIdle) {length : Nat} {perform : State → State × Reply}
    {body : List Byte} (performed : perform (s.takeRequest (length + 2)) = (t.takeRequest (length + 2)).accept body) :
    s.request length perform = (t.settle false).answered (length + 2) (okReply body) :=
  State.request_of_reply idle (performed.trans (by rw [State.accept, State.settle_takeRequest]))

/-! ### The cap bounds P (R126) -/

theorem Planner.speedBound_le_sCap (p : Planner) (c d : Nat) : p.speedBound c d ≤ p.sCap :=
  List.foldlRecOn (motive := (· ≤ p.sCap)) p.records _ (min_le_left _ _)
    fun _ bounded _ _ => (min_le_left _ _).trans bounded

theorem State.permittedSpeed_le_sCap (s : State) : s.permittedSpeed ≤ s.plan.sCap := by
  unfold State.permittedSpeed
  split
  next => exact Nat.zero_le _
  next =>
    split
    · exact Nat.zero_le _
    · exact s.plan.speedBound_le_sCap _ _

/-! ### SET_SPEED_CAP -/

theorem exec_setSpeedCap (speed : BitVec 16) (s : State) :
    exec (.setSpeedCap speed) s = .next (s.request 2 (State.performSetSpeedCap speed.toNat)) := rfl

theorem State.performSetSpeedCap_noFrame {s : State} (unwritten : s.frame = none) (speed : Nat) :
    s.performSetSpeedCap speed = s.refuse .noFrame := by
  simp [State.performSetSpeedCap, State.frameWritten, unwritten]

theorem State.performSetSpeedCap_framed {s : State} {f : FrameConstants} (written : s.frame = some f) (speed : Nat) :
    s.performSetSpeedCap speed
      = (s.onPlan fun p => { p with sCap := min speed f.sMax }).accept (beBytes 2 (min speed f.sMax)) := by
  simp [State.performSetSpeedCap, State.frameWritten, State.sMax, written]

theorem exec_setSpeedCap_noFrame {s : State} (idle : s.portIdle) (unwritten : s.frame = none) (speed : BitVec 16) :
    exec (.setSpeedCap speed) s = .next (s.answered 4 (refusal .noFrame)) := by
  rw [exec_setSpeedCap, State.request_of_refuse idle
    (State.performSetSpeedCap_noFrame (s := s.takeRequest 4) unwritten speed.toNat)]

theorem exec_setSpeedCap_framed {s : State} (idle : s.portIdle) {f : FrameConstants} (written : s.frame = some f)
    (speed : BitVec 16) :
    exec (.setSpeedCap speed) s
      = .next (((s.onPlan fun p => { p with sCap := min speed.toNat f.sMax }).settle false).answered 4
          (okReply (beBytes 2 (min speed.toNat f.sMax)))) := by
  have performed : (s.takeRequest 4).performSetSpeedCap speed.toNat
      = ((s.onPlan fun p => { p with sCap := min speed.toNat f.sMax }).takeRequest 4).accept
          (beBytes 2 (min speed.toNat f.sMax)) :=
    State.performSetSpeedCap_framed (s := s.takeRequest 4) written speed.toNat
  rw [exec_setSpeedCap, State.request_of_accept_settle idle performed]

/-! ### S_cap after the resets (R132, R188, R189) -/

theorem exec_coldReset_powerOn (levelA levelB emergencyActive : Bool) (s : State) :
    exec (.coldReset .powerOn levelA levelB emergencyActive) s
      = .next { coldState levelA levelB emergencyActive with pending := s.pending } := rfl

theorem State.settle_sCap (s : State) (sendWanted : Bool) : (s.settle sendWanted).plan.sCap = s.plan.sCap := by
  rw [State.settle_eq]

theorem State.warmRecords_sCap (s : State) : s.warmRecords.plan.sCap = s.plan.sCap := by
  simp [State.warmRecords, State.copyFromKnit]

/-- Of the blocks' warm resets, the planner's sets S_cap to 0 and no later one changes it. -/
theorem State.warmReset_sCap (s : State) : s.warmReset.plan.sCap = 0 := by
  simp [State.warmReset, State.settle_sCap, State.warmRecords_sCap, State.warmPlan]

theorem exec_restart {s : State} (idle : s.portIdle) :
    exec .restart s
      = .next ((s.takeRequest 2).warmReset.onPort fun p => { p with resetKind := .warm, inFlight := some .restart }) := by
  simp [exec, execRestart, State.requestLong, Port.performing, idle, State.performRestart, State.onPort]

/-! ### The obligation -/

/-- Settles O41: the two rows of SET_SPEED_CAP, S_cap 0 from the bound of P, and S_cap after each reset. -/
theorem speedCapIsStored : Obligations.SpeedCapIsStored := by
  refine ⟨fun s speed idle => ⟨fun unwritten => exec_setSpeedCap_noFrame idle unwritten speed, ?stored⟩, ?held, ?cold,
    ?warm⟩
  case stored =>
    intro f written
    have lower : (if f.sMax < speed.toNat then f.sMax else speed.toNat) = min speed.toNat f.sMax := by
      rw [min_comm, min_def_lt]
    rw [lower]
    exact ⟨_, exec_setSpeedCap_framed idle written speed, State.settle_sCap _ _, State.settle_speedFollows _,
      State.settle_eq _ _⟩
  case held =>
    intro s uncapped
    exact Nat.le_zero.mp (uncapped ▸ s.permittedSpeed_le_sCap)
  case cold =>
    intro s t a b e reset
    rw [exec_coldReset_powerOn] at reset
    cases reset
    rfl
  case warm =>
    intro s t idle restarted
    rw [exec_restart idle] at restarted
    cases restarted
    exact (s.takeRequest 2).warmReset_sCap

end Sys2Proof.Machine
end

section
/-! The count conversions (R148): the forward quotient and its span, the inverse and its span, what undoes what, the move a
send leaves, the moves SET_TRIM leaves (R28), and what is settled of them. -/

namespace Sys2Proof.Machine

/-! ### The forward conversion -/

section Forward
variable {gauge : Nat} (positive : 0 < gauge)
include positive

theorem forwardCounts_span (p : Int) :
    2 * gauge * forwardCounts gauge p ≤ 2 * p * 254000 + gauge
      ∧ 2 * p * 254000 + gauge < 2 * gauge * (forwardCounts gauge p + 1) := by
  have divisor : 0 < 2 * (gauge : Int) := by omega
  exact ⟨Int.mul_ediv_self_le divisor.ne', by
    rw [Int.mul_add, Int.mul_one]; exact Int.lt_mul_ediv_self_add divisor⟩

theorem forwardCounts_nonneg {p : Int} (low : 0 ≤ p) : 0 ≤ forwardCounts gauge p :=
  Int.ediv_nonneg (by omega) (by omega)

end Forward

/-- The coarsest gauge and the last position give the greatest counts. -/
theorem forwardCounts_le {gauge : Nat} (coarse : 5 ≤ gauge) {p : Int} (high : p ≤ 511) :
    forwardCounts gauge p ≤ 25958800 :=
  Int.le_of_lt_add_one (Int.ediv_lt_of_lt_mul (by omega) (by omega))

theorem targetCounts_sub (gauge : Nat) (trim p : Int) : targetCounts gauge trim p - trim = forwardCounts gauge p :=
  add_sub_cancel_right _ _

/-! ### The inverse conversion -/

/-- The position whose span of half a needle space on either side holds counts without trim (R148), not yet clamped. -/
def nearestPosition (gauge : Nat) (counts : Int) : Int := (2 * counts * gauge + 254000) / 508000

theorem countsToPosition_eq (gauge : Nat) (trim c : Int) :
    countsToPosition gauge trim c = clampPosition (nearestPosition gauge (c - trim)) := rfl

theorem nearestPosition_eq_iff {gauge : Nat} {counts p : Int} :
    nearestPosition gauge counts = p
      ↔ p * 508000 - 254000 ≤ 2 * counts * gauge ∧ 2 * counts * gauge < p * 508000 + 254000 := by
  rw [nearestPosition]
  omega

theorem clampPosition_eq (p : Int) : clampPosition p = if p < 0 then 0 else if 511 < p then 511 else p := by
  rw [clampPosition]
  omega

theorem clampPosition_of_mem {p : Int} (low : 0 ≤ p) (high : p ≤ 511) : clampPosition p = p := by
  rw [clampPosition, min_eq_right high, max_eq_right low]

/-- Rounding moves the counts by at most half of one, which is gauge in the inverse's dividend and less than half its
divisor. -/
theorem nearestPosition_forwardCounts {gauge : Nat} (positive : 0 < gauge) (fine : gauge < 254000) (p : Int) :
    nearestPosition gauge (forwardCounts gauge p) = p := by
  obtain ⟨floor, next⟩ := forwardCounts_span positive p
  have dividend : 2 * forwardCounts gauge p * gauge = 2 * gauge * forwardCounts gauge p := by ring
  rw [Int.mul_add, Int.mul_one] at next
  rw [nearestPosition_eq_iff, dividend]
  omega

theorem countsToPosition_targetCounts {gauge : Nat} (positive : 0 < gauge) (fine : gauge < 254000) (trim : Int) {p : Int}
    (low : 0 ≤ p) (high : p ≤ 511) : countsToPosition gauge trim (targetCounts gauge trim p) = p := by
  rw [countsToPosition_eq, targetCounts_sub, nearestPosition_forwardCounts positive fine, clampPosition_of_mem low high]

/-! ### The move a send leaves (R138) -/

theorem State.move_sendMove (s : State) {slot : Nat} (recorded : slot < s.bars.length) (target : Int) (side : Side)
    (kind : MoveKind) (budget : Nat) :
    ((s.sendMove slot target side kind budget).bar slot).move
      = some
          { tag := s.nextTag slot, target, counts := targetCounts s.gauge (s.bar slot).trim target, side, kind } := by
  rw [State.bar_sendMove, if_pos ⟨rfl, recorded⟩]

/-! ### The moves SET_TRIM leaves (R28) -/

@[simp] theorem State.bar_takeRequest (s : State) (length n : Nat) : (s.takeRequest length).bar n = s.bar n := by
  simp [State.bar]

@[simp] theorem State.bar_refuseBusy (s : State) (length n : Nat) : (s.refuseBusy length).bar n = s.bar n := by
  simp [State.bar]

@[simp] theorem State.bar_hold (s : State) (r : Reply) (n : Nat) : (s.hold r).bar n = s.bar n := by
  simp [State.bar]

@[simp] theorem State.bar_settle (s : State) (sendWanted : Bool) (n : Nat) : (s.settle sendWanted).bar n = s.bar n := by
  simp [State.bar]

/-- What a change of one bar keeps in that bar it keeps in every bar. -/
theorem State.bar_onBar_keeps {α : Type} {field : Bar → α} {f : Bar → Bar} (kept : ∀ b, field (f b) = field b) (s : State)
    (slot n : Nat) : field ((s.onBar slot f).bar n) = field (s.bar n) := by
  rw [State.bar_onBar]
  split
  · exact kept _
  · rfl

/-- What performing a request keeps of a bar the request keeps, on a PERFORMING port too (R185, R186). -/
theorem State.bar_request_keeps {α : Type} {field : Bar → α} {perform : State → State × Reply} {n : Nat}
    (kept : ∀ s, field ((perform s).1.bar n) = field (s.bar n)) (s : State) (length : Nat) :
    field ((s.request length perform).bar n) = field (s.bar n) := by
  rw [State.request]
  split
  next => rw [State.bar_refuseBusy]
  next => rw [State.bar_hold, kept, State.bar_takeRequest]

theorem State.move_performSetTrim (s : State) (slot : Nat) (trim : Int) (n : Nat) :
    ((s.performSetTrim slot trim).1.bar n).move = (s.bar n).move := by
  rw [State.performSetTrim]
  split
  next => rfl
  next =>
    rw [State.accept, State.bar_settle, State.bar_onBar_keeps (field := Bar.move)]
    exact fun _ => rfl

theorem exec_setTrim (slot : Byte) (trim : BitVec 16) (s : State) :
    exec (.setTrim slot trim) s = .next (s.request 3 (State.performSetTrim slot.toNat trim.toInt)) := rfl

/-! ### The obligation -/

/-- Settles O17: the span, the bounds and the inverse of the forward conversion, the inverse of any counts, the move sent and
the moves left by SET_TRIM. -/
theorem countConversions : Obligations.CountConversions := by
  refine ⟨fun gauge trim coarse fine trimLow trimHigh => ⟨fun p low high => ?forward, fun c => ?inverse⟩,
    fun s slot target side kind budget recorded => s.move_sendMove recorded target side kind budget, ?trimmed⟩
  case forward =>
    have positive : 0 < gauge := by omega
    obtain ⟨floor, next⟩ := forwardCounts_span positive p
    have least := forwardCounts_nonneg positive low
    have most := forwardCounts_le coarse high
    have counts := targetCounts_sub gauge trim p
    refine ⟨rfl, ?_, ?_, by omega, by omega, countsToPosition_targetCounts positive (by omega) trim low high⟩
    · rwa [counts]
    · rwa [counts]
  case inverse =>
    obtain ⟨low, high⟩ := nearestPosition_eq_iff.mp (Eq.refl (nearestPosition gauge (c - trim)))
    exact ⟨nearestPosition gauge (c - trim), rfl, low, high, clampPosition_eq _⟩
  case trimmed =>
    intro s t slot trim performed n
    rw [exec_setTrim] at performed
    cases performed
    exact State.bar_request_keeps (field := Bar.move) (fun u => u.move_performSetTrim slot.toNat trim.toInt n) s 3

end Sys2Proof.Machine
end

section
/-! The piece requests (R182): what each does to the counter, and what is settled of them. -/

namespace Sys2Proof.Machine

/-- A request that only changes the piece counter leaves the new counter, the answer that carries it, and nothing else. -/
theorem State.request_of_piecesBecome {s : State} (idle : s.portIdle) {length : Nat} {perform : State → State × Reply}
    {p : PieceCounter} (performed : perform (s.takeRequest (length + 2)) = (s.takeRequest (length + 2)).piecesBecome p) :
    s.request length perform = ({ s with pieces := p } : State).answered (length + 2) (okReply (piecesBody p)) :=
  State.request_of_reply (t := { s with pieces := p }) idle performed

theorem clampNat_eq_ite {low high : Nat} (ordered : low ≤ high) (v : Nat) :
    clampNat low high v = if v < low then low else if high < v then high else v := by
  unfold clampNat
  split
  next => omega
  next => split <;> omega

/-! ### SET_PIECE_LENGTH -/

theorem PieceCounter.setLength_paused {p : PieceCounter} (paused : p.state = .paused) (length : Nat) :
    p.setLength length = { p with preload := clampNat 1 1000000 length, count := clampNat 1 1000000 length } := by
  simp [PieceCounter.setLength, paused]

theorem PieceCounter.setLength_counting {p : PieceCounter} (counting : p.state = .counting) (length : Nat) :
    p.setLength length = { p with preload := clampNat 1 1000000 length } := by
  simp [PieceCounter.setLength, counting]

theorem exec_setPieceLength {s : State} (idle : s.portIdle) (length : BitVec 32) :
    exec (.setPieceLength length) s
      = .next (({ s with pieces := s.pieces.setLength length.toNat } : State).answered 6
          (okReply (piecesBody (s.pieces.setLength length.toNat)))) :=
  congrArg Host.Outcome.next (State.request_of_piecesBecome idle (length := 4)
    (perform := State.performSetPieceLength length.toNat) rfl)

/-! ### The other requests -/

theorem exec_startPieces {s : State} (idle : s.portIdle) :
    exec .startPieces s
      = .next (({ s with pieces := { s.pieces with state := .counting } } : State).answered 2
          (okReply (piecesBody { s.pieces with state := .counting }))) :=
  congrArg Host.Outcome.next (State.request_of_piecesBecome idle (length := 0) (perform := State.performStartPieces) rfl)

theorem exec_pausePieces {s : State} (idle : s.portIdle) :
    exec .pausePieces s
      = .next (({ s with pieces := { s.pieces with state := .paused } } : State).answered 2
          (okReply (piecesBody { s.pieces with state := .paused }))) :=
  congrArg Host.Outcome.next (State.request_of_piecesBecome idle (length := 0) (perform := State.performPausePieces) rfl)

theorem exec_clearPieces {s : State} (idle : s.portIdle) :
    exec .clearPieces s
      = .next (({ s with pieces := { s.pieces with pieces := 0, count := s.pieces.preload } } : State).answered 2
          (okReply (piecesBody { s.pieces with pieces := 0, count := s.pieces.preload }))) :=
  congrArg Host.Outcome.next (State.request_of_piecesBecome idle (length := 0) (perform := State.performClearPieces) rfl)

theorem exec_queryPieces {s : State} (idle : s.portIdle) :
    exec .queryPieces s = .next (s.answered 2 (okReply (piecesBody s.pieces))) :=
  congrArg Host.Outcome.next (State.request_of_reply (t := s) idle (length := 0) (perform := State.performQueryPieces) rfl)

/-! ### The obligation -/

/-- Settles O44: one equation for each request, SET_PIECE_LENGTH by the state it meets. -/
theorem pieceRequests : Obligations.PieceRequests := by
  intro s idle becomes
  have becomes_eq (p : PieceCounter) (n : Nat) :
      becomes p n = ({ s with pieces := p } : State).answered n (okReply (piecesBody p)) := by
    cases state : p.state <;> simp [becomes, piecesBody, PieceState.place, state]
  simp only [becomes_eq]
  refine ⟨fun length => ?setLength, exec_startPieces idle, exec_pausePieces idle, exec_clearPieces idle,
    exec_queryPieces idle⟩
  case setLength =>
    have clamped : clampNat 1 1000000 length.toNat
        = if length.toNat = 0 then 1 else if 1000000 < length.toNat then 1000000 else length.toNat := by
      simp [clampNat_eq_ite]
    rw [← clamped, exec_setPieceLength idle]
    exact ⟨fun paused => by rw [PieceCounter.setLength_paused paused],
      fun counting => by rw [PieceCounter.setLength_counting counting]⟩

end Sys2Proof.Machine
end

section
/-! The piece counter at course entries (R181): the acts of an entry that leave the record of PIECE_END, what the counter does
on a report, and what is settled of them. -/

namespace Sys2Proof.Machine

/-- The record of PIECE_END, absent where the Alert Unit holds too few records. -/
def AlertUnit.pieceEnd (u : AlertUnit) : Option AlertRecord := u.records[AlertKind.pieceEnd.number]?

theorem AlertUnit.record_eq_pieceEnd (u : AlertUnit) : u.record 13 = u.pieceEnd.getD clearAlert :=
  List.getD_eq_getElem?_getD

theorem AlertUnit.record_eq_of_pieceEnd_eq {u v : AlertUnit} (kept : u.pieceEnd = v.pieceEnd) :
    u.record 13 = v.record 13 := by
  rw [AlertUnit.record_eq_pieceEnd, AlertUnit.record_eq_pieceEnd, kept]

theorem AlertUnit.pieceEnd_isSome_iff (u : AlertUnit) : u.pieceEnd.isSome ↔ 13 < u.records.length := by
  simp [AlertUnit.pieceEnd, AlertKind.number]

/-! ### Raises of other kinds -/

theorem AlertKind.number_ne_pieceEnd {kind : AlertKind} (other : kind ≠ .pieceEnd) :
    kind.number ≠ AlertKind.pieceEnd.number := by
  cases kind with
  | pieceEnd => exact absurd rfl other
  | _ => decide

/-- A raise of any other kind leaves the record of PIECE_END (R167). -/
@[simp] theorem State.pieceEnd_raiseAlert (s : State) {kind : AlertKind} (other : kind ≠ .pieceEnd)
    (slot course : Option Nat) : (s.raiseAlert kind slot course).alerts.pieceEnd = s.alerts.pieceEnd := by
  simp [State.raiseAlert_alerts, AlertUnit.pieceEnd, AlertUnit.recompute, AlertKind.number_ne_pieceEnd other]

@[simp] theorem State.pieceEnd_raiseBar (s : State) {kind : AlertKind} (other : kind ≠ .pieceEnd) (slot : Nat) :
    (s.raiseBar kind slot).alerts.pieceEnd = s.alerts.pieceEnd := s.pieceEnd_raiseAlert other _ _

@[simp] theorem State.pieceEnd_raisePart (s : State) {kind : AlertKind} (other : kind ≠ .pieceEnd) :
    (s.raisePart kind).alerts.pieceEnd = s.alerts.pieceEnd := s.pieceEnd_raiseAlert other _ _

/-- Acts that each leave the record of PIECE_END leave it together. -/
theorem State.pieceEnd_foldl {α : Type} {f : State → α → State}
    (kept : ∀ t a, (f t a).alerts.pieceEnd = t.alerts.pieceEnd) (l : List α) (s : State) :
    (l.foldl f s).alerts.pieceEnd = s.alerts.pieceEnd :=
  foldl_keeps (P := fun t => t.alerts.pieceEnd = s.alerts.pieceEnd) (fun t a same => (kept t a).trans same) l rfl

/-! ### The expiries before an entry (R8, R13) -/

@[simp] theorem State.pieceEnd_transitExpires (s : State) : s.transitExpires.alerts.pieceEnd = s.alerts.pieceEnd := by
  unfold State.transitExpires
  split
  next => rfl
  next => simp [State.loseMarker]
  next =>
    simp only [State.settle_frame, State.loseFrame]
    split
    · simp [State.ringLeavesUp]
    · simp

@[simp] theorem State.pieceEnd_retryExpires (s : State) (slot : Nat) :
    (s.retryExpires slot).alerts.pieceEnd = s.alerts.pieceEnd := by
  unfold State.retryExpires
  split
  next => rfl
  next =>
    split
    · simp only [State.settle_frame, State.retry, State.handBind_frame, State.onRing_fields]
      split <;> simp
    · rfl

@[simp] theorem State.pieceEnd_expire (s : State) (k : Timer) : (s.expire k).alerts.pieceEnd = s.alerts.pieceEnd := by
  cases k <;> simp [State.expire]

@[simp] theorem State.pieceEnd_elapse (fuel left : Nat) (s : State) :
    (State.elapse fuel left s).alerts.pieceEnd = s.alerts.pieceEnd := by
  induction fuel generalizing left s with
  | zero => simp [State.elapse]
  | succ n ih =>
    rw [State.elapse]
    split
    next =>
      split
      · simp [ih]
      · simp
    next => simp

@[simp] theorem State.pieceEnd_passUntil (s : State) (time : Nat) :
    (s.passUntil time).alerts.pieceEnd = s.alerts.pieceEnd := by
  unfold State.passUntil
  split
  · rfl
  · exact State.pieceEnd_elapse _ _ s

/-! ### The sweep (R142, R144) -/

@[simp] theorem State.pieceEnd_checkBar (s : State) (w : Window) (heading : Dir) (slot : Nat) :
    (s.checkBar w heading slot).alerts.pieceEnd = s.alerts.pieceEnd := by
  have failed : (s.failCheck slot).alerts.pieceEnd = s.alerts.pieceEnd := by
    unfold State.failCheck
    split <;> simp
  unfold State.checkBar
  split
  next => rfl
  next =>
    split
    next => rfl
    next =>
      split
      · exact failed
      · rfl

@[simp] theorem State.pieceEnd_leaveWindow (s : State) (profile : Nat) (w : Window) (heading : Dir) :
    (s.leaveWindow profile w heading).alerts.pieceEnd = s.alerts.pieceEnd := by
  unfold State.leaveWindow
  split
  · refine State.pieceEnd_foldl (fun t slot => ?_) _ s
    split
    · exact t.pieceEnd_checkBar w heading slot
    · rfl
  · rfl

@[simp] theorem State.pieceEnd_trackTo (s : State) (angle profile : Nat) :
    (s.trackTo angle profile).alerts.pieceEnd = s.alerts.pieceEnd := by
  dsimp only [State.trackTo]
  (repeat' split) <;> simp

@[simp] theorem State.pieceEnd_sweep (s : State) (d : Dir) (angleBefore : Nat) :
    (s.sweep d angleBefore).alerts.pieceEnd = s.alerts.pieceEnd :=
  State.pieceEnd_foldl (fun t angle => State.pieceEnd_foldl (fun u n => u.pieceEnd_trackTo angle n) _ t) _ s

/-! ### The application and the planner (R93, R120 to R124) -/

@[simp] theorem State.pieceEnd_applySets (s : State) : s.applySets.alerts.pieceEnd = s.alerts.pieceEnd :=
  State.pieceEnd_foldl (fun t n => by simp [State.applySet]) _ s

@[simp] theorem State.pieceEnd_entryBars (s : State) (r : CourseReport) :
    (s.entryBars r).alerts.pieceEnd = s.alerts.pieceEnd := by
  unfold State.entryBars
  (repeat' split) <;> simp

@[simp] theorem State.pieceEnd_raiseBlocked (s : State) (r : CourseRecord) :
    (s.raiseBlocked r).alerts.pieceEnd = s.alerts.pieceEnd := by
  unfold State.raiseBlocked
  split <;> simp

@[simp] theorem State.pieceEnd_raiseBlockedEntry (s : State) :
    s.raiseBlockedEntry.alerts.pieceEnd = s.alerts.pieceEnd := by
  unfold State.raiseBlockedEntry
  split <;> simp

@[simp] theorem State.pieceEnd_buildCurrent (s : State) : s.buildCurrent.alerts.pieceEnd = s.alerts.pieceEnd := by
  simp [State.buildCurrent]

@[simp] theorem State.pieceEnd_takeHead (s : State) (periodValid : Bool) :
    (s.takeHead periodValid).alerts.pieceEnd = s.alerts.pieceEnd := by
  unfold State.takeHead
  split
  next => simp
  next =>
    unfold State.starve
    split <;> simp

@[simp] theorem State.pieceEnd_checkOverspeed (s : State) (periodValid : Bool) :
    (s.checkOverspeed periodValid).alerts.pieceEnd = s.alerts.pieceEnd := by
  unfold State.checkOverspeed
  split <;> simp

@[simp] theorem State.pieceEnd_entryPlan (s : State) (r : CourseReport) :
    (s.entryPlan r).alerts.pieceEnd = s.alerts.pieceEnd := by
  unfold State.entryPlan
  (repeat' split) <;> simp

/-! ### The counter on a report (R181) -/

theorem State.countPieces_paused {s : State} (paused : s.pieces.state = .paused) (r : CourseReport) :
    s.countPieces r = s := by
  simp [State.countPieces, paused]

theorem State.countPieces_unchanged (s : State) {r : CourseReport} (unchanged : r.cChanged = false) :
    s.countPieces r = s := by
  simp [State.countPieces, unchanged]

section Counting

variable {s : State} {r : CourseReport} (counting : s.pieces.state = .counting) (changed : r.cChanged = true)
include counting changed

theorem State.countPieces_last (forward : r.dir = .forward) (one : s.pieces.count = 1) :
    s.countPieces r = s.endPiece := by
  simp [State.countPieces, counting, changed, forward, one]

theorem State.countPieces_forward (forward : r.dir = .forward) (more : s.pieces.count ≠ 1) :
    s.countPieces r = s.onPieces fun p => { p with count := p.count - 1 } := by
  simp [State.countPieces, counting, changed, forward, more]

theorem State.countPieces_reverse (reverse : r.dir = .reverse) (below : s.pieces.count < s.pieces.preload) :
    s.countPieces r = s.onPieces fun p => { p with count := p.count + 1 } := by
  simp [State.countPieces, counting, changed, reverse, below]

theorem State.countPieces_full (reverse : r.dir = .reverse) (full : s.pieces.preload ≤ s.pieces.count) :
    s.countPieces r = s := by
  simp [State.countPieces, counting, changed, reverse, full]

end Counting

/-- On a reverse report no piece is counted out. -/
theorem State.countPieces_reverse_alerts (s : State) {r : CourseReport} (reverse : r.dir = .reverse) :
    (s.countPieces r).alerts = s.alerts := by
  simp only [State.countPieces, reverse]
  (repeat' split) <;> simp

/-- A piece counted out raises the record of PIECE_END with no slot and the course C. -/
theorem State.endPiece_record {s : State} (present : 13 < s.alerts.records.length) :
    s.endPiece.alerts.record 13 = (s.alerts.record 13).raised none (some s.shaft.c) := by
  rw [State.endPiece, State.raisePart, State.record_raiseAlert, if_pos ⟨rfl, present⟩]
  rfl

/-! ### The counter at an entry -/

/-- A state u in which the piece counter acts on the report r of an entry from s: whatever acted before it left the counter
and the record of PIECE_END. -/
structure State.meetsCounter (s u : State) (r : CourseReport) : Prop where
  changed_iff : r.cChanged = true ↔ u.shaft.c ≠ s.shaft.c
  pieces : u.pieces = s.pieces
  pieceEnd : u.alerts.pieceEnd = s.alerts.pieceEnd

section Meets

variable {s u : State} {r : CourseReport}

/-- The Shaft Tracker's own act at an entry may change C, and the report says whether it did (R5). -/
theorem State.meetsCounter_onShaft (course : u.shaft.c = s.shaft.c) (pieces : u.pieces = s.pieces)
    (pieceEnd : u.alerts.pieceEnd = s.alerts.pieceEnd) (after : Shaft) (d : Dir) :
    s.meetsCounter (u.onShaft fun _ => after) (courseReport u.shaft after d) :=
  ⟨by simp [courseReport, course, ne_comm], pieces, pieceEnd⟩

theorem State.meetsCounter.raisePart (meets : s.meetsCounter u r) {kind : AlertKind} (other : kind ≠ .pieceEnd)
    (raises : Prop) [Decidable raises] : s.meetsCounter (if raises then u.raisePart kind else u) r := by
  obtain ⟨changed_iff, pieces, pieceEnd⟩ := meets
  split
  · exact ⟨by simpa using changed_iff, by simpa using pieces, by simpa [other] using pieceEnd⟩
  · exact ⟨changed_iff, pieces, pieceEnd⟩

/-- Every block that takes a report before the counter does leaves the counter and the record of PIECE_END (R5). -/
theorem State.meetsCounter.takeReport (meets : s.meetsCounter u r) :
    ∃ v, u.takeReport r = v.countPieces r ∧ s.meetsCounter v r := by
  obtain ⟨changed_iff, pieces, pieceEnd⟩ := meets
  exact ⟨_, rfl, by simpa using changed_iff, by simpa using pieces, by simpa [State.entryPlace] using pieceEnd⟩

theorem State.meetsCounter.present (meets : s.meetsCounter u r) (sixteen : s.alerts.records.length = 16) :
    13 < u.alerts.records.length := by
  rw [← AlertUnit.pieceEnd_isSome_iff, meets.pieceEnd, AlertUnit.pieceEnd_isSome_iff]
  omega

/-- PAUSED, or at an entry that leaves C, the counter does nothing. -/
theorem State.meetsCounter.idle (meets : s.meetsCounter u r)
    (idle : s.pieces.state = .paused ∨ u.shaft.c = s.shaft.c) : u.countPieces r = u := by
  rcases idle with paused | same
  · exact State.countPieces_paused (meets.pieces ▸ paused) r
  · exact u.countPieces_unchanged (Bool.eq_false_iff.mpr fun changed => meets.changed_iff.mp changed same)

end Meets

@[simp] theorem State.beginStep_c (s : State) (channel : Channel) (d : Dir) :
    (s.beginStep channel d).shaft.c = s.shaft.c := by
  cases channel <;> cases d <;> simp [State.beginStep, Shaft.toggle, Shaft.stepped, Shaft.breakRun]

theorem State.passUntil_c (s : State) (time : Nat) : (s.passUntil time).shaft.c = s.shaft.c := by
  obtain ⟨_, _, _, _, shaft⟩ := s.passUntil_shaft time
  rw [shaft]

/-- A forward entry ends with the counter's act and the send of R127. -/
theorem exec_forwardCourseEntry_countPieces (s : State) (time : Nat) :
    ∃ u r, exec (.forwardCourseEntry time) s = .next ((u.countPieces r).settle true)
      ∧ r.dir = .forward ∧ s.meetsCounter u r := by
  let t := s.passUntil time
  let b := t.beginStep (channelOf t.shaft.levelA t.shaft.levelB .forward) .forward
  have course : b.shaft.c = s.shaft.c := (t.beginStep_c _ _).trans (s.passUntil_c time)
  have entered := State.meetsCounter_onShaft course (by simp [b, t]) (by simp [b, t])
    ((b.shaft.atBoundary .forward).countForward b.now) .forward
  obtain ⟨u, counted, meets⟩ := (entered.raisePart (kind := .shaftSlip) nofun (b.shaft.boundarySlips .forward)).takeReport
  exact ⟨u, _, congrArg (fun v : State => Host.Outcome.next (v.settle true)) counted, rfl, meets⟩

/-- A reverse entry ends with the counter's act, P following it. -/
theorem exec_reverseCourseEntry_countPieces (s : State) :
    ∃ u r, exec .reverseCourseEntry s = .next ((u.countPieces r).settle false)
      ∧ r.dir = .reverse ∧ s.meetsCounter u r := by
  let b := s.beginStep (channelOf s.shaft.levelA s.shaft.levelB .reverse) .reverse
  have course : b.shaft.c = s.shaft.c := s.beginStep_c _ _
  have entered := State.meetsCounter_onShaft course (by simp [b]) (by simp [b])
    ((b.shaft.atBoundary .reverse).countReverse b.plan.floor) .reverse
  have slipped := entered.raisePart (kind := .shaftSlip) nofun (b.shaft.boundarySlips .reverse)
  obtain ⟨u, counted, meets⟩ := (slipped.raisePart (kind := .reverseFloor) nofun (b.shaft.c ≤ b.plan.floor)).takeReport
  exact ⟨u, _, congrArg (fun v : State => Host.Outcome.next (v.settle false)) counted, rfl, meets⟩

/-! ### The obligation -/

/-- Settles O9: in the state in which the counter acts on the report, each clause is an equation of `countPieces`. -/
theorem pieceCounterActsAtEntries : Obligations.PieceCounterActsAtEntries := by
  refine fun s sixteen => ⟨fun time => ?forward, ?reverse⟩
  case forward =>
    obtain ⟨u, r, executed, forward, meets⟩ := exec_forwardCourseEntry_countPieces s time
    have pieces := meets.pieces
    have record := AlertUnit.record_eq_of_pieceEnd_eq meets.pieceEnd
    refine ⟨_, executed, ?_⟩
    simp only [State.settle_frame, State.countPieces_frame]
    refine ⟨fun idle => ?kept, fun counting changes one => ?last, fun counting changes many => ?more⟩
    case kept => rw [meets.idle idle]; exact ⟨pieces, record⟩
    case last =>
      rw [State.countPieces_last (pieces ▸ counting) (meets.changed_iff.mpr changes) forward (pieces ▸ one),
        State.endPiece_record (meets.present sixteen), record]
      exact ⟨by simp [State.endPiece, pieces], rfl⟩
    case more =>
      have notOne : u.pieces.count ≠ 1 := by rw [pieces]; omega
      rw [State.countPieces_forward (pieces ▸ counting) (meets.changed_iff.mpr changes) forward notOne]
      exact ⟨by simp [pieces], record⟩
  case reverse =>
    obtain ⟨u, r, executed, reverse, meets⟩ := exec_reverseCourseEntry_countPieces s
    have pieces := meets.pieces
    have record := AlertUnit.record_eq_of_pieceEnd_eq meets.pieceEnd
    refine ⟨_, executed, ?_⟩
    simp only [State.settle_frame, State.countPieces_frame, u.countPieces_reverse_alerts reverse]
    refine ⟨record, fun idle => ?kept, fun counting changes below => ?below, fun counting changes full => ?full⟩
    case kept => rw [meets.idle idle, pieces]
    case below =>
      rw [State.countPieces_reverse (pieces ▸ counting) (meets.changed_iff.mpr changes) reverse (pieces ▸ below)]
      simp [pieces]
    case full =>
      rw [State.countPieces_full (pieces ▸ counting) (meets.changed_iff.mpr changes) reverse (pieces ▸ full), pieces]

end Sys2Proof.Machine
end

section
/-! READ (R187): the bytes a read shifts out, place by place, the answer it finds in each port state, what it leaves
held, and what is settled of it. -/

namespace Sys2Proof.Machine

/-! ### The bytes shifted out -/

@[simp] theorem readBytes_length (answer : Reply) (n : Nat) : (readBytes answer n).length = n := by
  simp only [readBytes, List.length_take, List.length_append, List.length_replicate]
  omega

/-- A place of a read holds the byte of the answer there, after the leading 0, and 0 beyond the answer's end. -/
theorem readBytes_getElem? (answer : Reply) {n i : Nat} (clocked : i < n) :
    (readBytes answer n)[i]? = some ((0 :: answer.bytes).getD i 0) := by
  rw [readBytes, List.getElem?_take_of_lt clocked, List.getD_eq_getElem?_getD]
  rcases Nat.lt_or_ge i (0 :: answer.bytes).length with inside | beyond
  · rw [List.getElem?_append_left inside, List.getElem?_eq_getElem inside, Option.getD_some]
  · have padded : i - (0 :: answer.bytes).length < n := Nat.lt_of_le_of_lt (Nat.sub_le _ _) clocked
    rw [List.getElem?_append_right beyond, List.getElem?_replicate_of_lt padded, List.getElem?_eq_none beyond,
      Option.getD_none]

/-! ### The answer found, and what stays held -/

theorem Port.performing_of_inFlight {p : Port} (busy : p.inFlight ≠ none) : p.performing = true :=
  Option.isSome_iff_ne_none.mpr busy

theorem Port.not_performing_of_idle {p : Port} (idle : p.inFlight = none) : p.performing = false := by
  rw [Port.performing, idle, Option.isSome_none]

theorem Port.answer_performing {p : Port} (busy : p.inFlight ≠ none) : p.answer = refusal .pending := by
  rw [Port.answer, if_pos (performing_of_inFlight busy)]

theorem Port.answer_held {p : Port} (idle : p.inFlight = none) {h : Held} (held : p.held = some h) :
    p.answer = h.reply := by
  simp [Port.answer, not_performing_of_idle idle, held]

theorem Port.answer_empty {p : Port} (idle : p.inFlight = none) (empty : p.held = none) :
    p.answer = refusal .badState := by
  simp [Port.answer, not_performing_of_idle idle, empty]

/-- The response held after a read: while PERFORMING the one held before, otherwise that one, read. -/
def Port.heldAfterRead (p : Port) : Option Held :=
  if p.performing then p.held else p.held.map fun h => { h with wasRead := true }

theorem Port.heldAfterRead_performing {p : Port} (busy : p.inFlight ≠ none) : p.heldAfterRead = p.held :=
  if_pos (performing_of_inFlight busy)

theorem Port.heldAfterRead_idle {p : Port} (idle : p.inFlight = none) :
    p.heldAfterRead = p.held.map fun h => { h with wasRead := true } :=
  if_neg (by simp [not_performing_of_idle idle])

/-! ### READ -/

/-- The frame of a read of at least one byte: the bytes shifted out and the held response. -/
theorem exec_read {n : Nat} (clocked : 0 < n) (s : State) :
    exec (.read n) s
      = .next { s with
          port := { s.port with dataOut := readBytes s.port.answer n, held := s.port.heldAfterRead } } := by
  have read : exec (.read n) s = .next (s.readTransaction n) := rfl
  rw [read, State.readTransaction, if_neg clocked.ne']
  rfl

/-- Settles O47: each state of the port gives the answer and the held response, `readBytes_getElem?` the places. -/
theorem readShiftsOutTheHeldResponse : Obligations.ReadShiftsOutTheHeldResponse := by
  intro s n clocked
  refine ⟨_, exec_read clocked s, rfl, readBytes_length _ n, fun busy => ⟨fun i inside => ?pending, ?stays⟩,
    fun idle h held => ⟨fun i inside => ?response, ?becomesRead⟩,
    fun idle empty => ⟨fun i inside => ?badState, ?nothing⟩⟩
  case pending => rw [readBytes_getElem? _ inside, Port.answer_performing busy]; rfl
  case stays => exact Port.heldAfterRead_performing busy
  case response => rw [readBytes_getElem? _ inside, Port.answer_held idle held]; rfl
  case becomesRead => rw [Port.heldAfterRead_idle idle, held, Option.map_some]
  case badState => rw [readBytes_getElem? _ inside, Port.answer_empty idle empty]; rfl
  case nothing => rw [Port.heldAfterRead_idle idle, empty, Option.map_none]

end Sys2Proof.Machine
end
